-- ==== Sys2Proof/Word.lean ====
section
/-!
DEFINITION. The two word types of the machine (00_scope.md R7, R9): a byte and a 16-bit word.
Everything built on them (bit fields, byte order, sign extension) stands in the Machine files.
-/

namespace Sys2Proof

/-- `u8` of R9: an unsigned byte. Arithmetic is modulo 2^8. -/
abbrev Byte := BitVec 8

/-- `u16` of R9: a register pair or an address. Arithmetic is modulo 2^16. -/
abbrev Word := BitVec 16

end Sys2Proof
end

