-- ==== Sys2Proof/Syntax.lean ====
section
/-!
DEFINITION. The instruction set: the operand fields of 30_encoding.md R156-R159, one constructor of `Instr` per row of
spec/opcode_table.json (R162, R163, R165), and the rows of each field-shaped group by their fields.
-/

namespace Sys2Proof

/-- The 8-bit registers of the register field (R156), without its value 6. -/
inductive R8 where
  | b | c | d | e | h | l | a
deriving DecidableEq, Repr

/-- The 8-bit operand field of R156: a register, or the memory byte at HL (value 6). -/
inductive Opnd8 where
  | reg (r : R8)
  | hlInd
deriving DecidableEq, Repr

/-- The pair field `rp` of R158. -/
inductive R16 where
  | bc | de | hl | sp
deriving DecidableEq, Repr

/-- The pair field `rp2` of PUSH and POP (R158). -/
inductive RStk where
  | bc | de | hl | af
deriving DecidableEq, Repr

/-- The condition field (R157). -/
inductive Cond where
  | nz | z | nc | c
deriving DecidableEq, Repr

/-- The ALU field (R159). -/
inductive AluOp where
  | add | adc | sub | sbc | and | xor | or | cp
deriving DecidableEq, Repr

/-- The rotate and shift field of the secondary table (R160). -/
inductive RotOp where
  | rlc | rrc | rl | rr | sla | sra | swap | srl
deriving DecidableEq, Repr

/-- One constructor per row of spec/opcode_table.json. An argument is an operand the row leaves open: `d` an immediate,
`a` an address, `n` an offset into page FF00, `e` a signed displacement as its raw byte (R161).
`Ind` before a name is the memory byte at it, as parentheses are in the table. -/
inductive Instr where
  -- 40_load.md
  /-- `LD BC,d16`, 0x01, R220. -/
  | ldBcD16 (d : Word)
  /-- `LD (BC),A`, 0x02, R207. -/
  | ldIndBcA
  /-- `LD B,d8`, 0x06, R201. -/
  | ldBD8 (d : Byte)
  /-- `LD (a16),SP`, 0x08, R221. -/
  | ldIndA16Sp (a : Word)
  /-- `LD A,(BC)`, 0x0A, R205. -/
  | ldAIndBc
  /-- `LD C,d8`, 0x0E, R201. -/
  | ldCD8 (d : Byte)
  /-- `LD DE,d16`, 0x11, R220. -/
  | ldDeD16 (d : Word)
  /-- `LD (DE),A`, 0x12, R208. -/
  | ldIndDeA
  /-- `LD D,d8`, 0x16, R201. -/
  | ldDD8 (d : Byte)
  /-- `LD A,(DE)`, 0x1A, R206. -/
  | ldAIndDe
  /-- `LD E,d8`, 0x1E, R201. -/
  | ldED8 (d : Byte)
  /-- `LD HL,d16`, 0x21, R220. -/
  | ldHlD16 (d : Word)
  /-- `LD (HL+),A`, 0x22, R217. -/
  | ldIndHlIncA
  /-- `LD H,d8`, 0x26, R201. -/
  | ldHD8 (d : Byte)
  /-- `LD A,(HL+)`, 0x2A, R215. -/
  | ldAIndHlInc
  /-- `LD L,d8`, 0x2E, R201. -/
  | ldLD8 (d : Byte)
  /-- `LD SP,d16`, 0x31, R220. -/
  | ldSpD16 (d : Word)
  /-- `LD (HL-),A`, 0x32, R218. -/
  | ldIndHlDecA
  /-- `LD (HL),d8`, 0x36, R204. -/
  | ldIndHlD8 (d : Byte)
  /-- `LD A,(HL-)`, 0x3A, R216. -/
  | ldAIndHlDec
  /-- `LD A,d8`, 0x3E, R201. -/
  | ldAD8 (d : Byte)
  /-- `LD B,B`, 0x40, R200. -/
  | ldBB
  /-- `LD B,C`, 0x41, R200. -/
  | ldBC
  /-- `LD B,D`, 0x42, R200. -/
  | ldBD
  /-- `LD B,E`, 0x43, R200. -/
  | ldBE
  /-- `LD B,H`, 0x44, R200. -/
  | ldBH
  /-- `LD B,L`, 0x45, R200. -/
  | ldBL
  /-- `LD B,(HL)`, 0x46, R202. -/
  | ldBIndHl
  /-- `LD B,A`, 0x47, R200. -/
  | ldBA
  /-- `LD C,B`, 0x48, R200. -/
  | ldCB
  /-- `LD C,C`, 0x49, R200. -/
  | ldCC
  /-- `LD C,D`, 0x4A, R200. -/
  | ldCD
  /-- `LD C,E`, 0x4B, R200. -/
  | ldCE
  /-- `LD C,H`, 0x4C, R200. -/
  | ldCH
  /-- `LD C,L`, 0x4D, R200. -/
  | ldCL
  /-- `LD C,(HL)`, 0x4E, R202. -/
  | ldCIndHl
  /-- `LD C,A`, 0x4F, R200. -/
  | ldCA
  /-- `LD D,B`, 0x50, R200. -/
  | ldDB
  /-- `LD D,C`, 0x51, R200. -/
  | ldDC
  /-- `LD D,D`, 0x52, R200. -/
  | ldDD
  /-- `LD D,E`, 0x53, R200. -/
  | ldDE
  /-- `LD D,H`, 0x54, R200. -/
  | ldDH
  /-- `LD D,L`, 0x55, R200. -/
  | ldDL
  /-- `LD D,(HL)`, 0x56, R202. -/
  | ldDIndHl
  /-- `LD D,A`, 0x57, R200. -/
  | ldDA
  /-- `LD E,B`, 0x58, R200. -/
  | ldEB
  /-- `LD E,C`, 0x59, R200. -/
  | ldEC
  /-- `LD E,D`, 0x5A, R200. -/
  | ldED
  /-- `LD E,E`, 0x5B, R200. -/
  | ldEE
  /-- `LD E,H`, 0x5C, R200. -/
  | ldEH
  /-- `LD E,L`, 0x5D, R200. -/
  | ldEL
  /-- `LD E,(HL)`, 0x5E, R202. -/
  | ldEIndHl
  /-- `LD E,A`, 0x5F, R200. -/
  | ldEA
  /-- `LD H,B`, 0x60, R200. -/
  | ldHB
  /-- `LD H,C`, 0x61, R200. -/
  | ldHC
  /-- `LD H,D`, 0x62, R200. -/
  | ldHD
  /-- `LD H,E`, 0x63, R200. -/
  | ldHE
  /-- `LD H,H`, 0x64, R200. -/
  | ldHH
  /-- `LD H,L`, 0x65, R200. -/
  | ldHL
  /-- `LD H,(HL)`, 0x66, R202. -/
  | ldHIndHl
  /-- `LD H,A`, 0x67, R200. -/
  | ldHA
  /-- `LD L,B`, 0x68, R200. -/
  | ldLB
  /-- `LD L,C`, 0x69, R200. -/
  | ldLC
  /-- `LD L,D`, 0x6A, R200. -/
  | ldLD
  /-- `LD L,E`, 0x6B, R200. -/
  | ldLE
  /-- `LD L,H`, 0x6C, R200. -/
  | ldLH
  /-- `LD L,L`, 0x6D, R200. -/
  | ldLL
  /-- `LD L,(HL)`, 0x6E, R202. -/
  | ldLIndHl
  /-- `LD L,A`, 0x6F, R200. -/
  | ldLA
  /-- `LD (HL),B`, 0x70, R203. -/
  | ldIndHlB
  /-- `LD (HL),C`, 0x71, R203. -/
  | ldIndHlC
  /-- `LD (HL),D`, 0x72, R203. -/
  | ldIndHlD
  /-- `LD (HL),E`, 0x73, R203. -/
  | ldIndHlE
  /-- `LD (HL),H`, 0x74, R203. -/
  | ldIndHlH
  /-- `LD (HL),L`, 0x75, R203. -/
  | ldIndHlL
  /-- `LD (HL),A`, 0x77, R203. -/
  | ldIndHlA
  /-- `LD A,B`, 0x78, R200. -/
  | ldAB
  /-- `LD A,C`, 0x79, R200. -/
  | ldAC
  /-- `LD A,D`, 0x7A, R200. -/
  | ldAD
  /-- `LD A,E`, 0x7B, R200. -/
  | ldAE
  /-- `LD A,H`, 0x7C, R200. -/
  | ldAH
  /-- `LD A,L`, 0x7D, R200. -/
  | ldAL
  /-- `LD A,(HL)`, 0x7E, R202. -/
  | ldAIndHl
  /-- `LD A,A`, 0x7F, R200. -/
  | ldAA
  /-- `POP BC`, 0xC1, R225. -/
  | popBc
  /-- `PUSH BC`, 0xC5, R224. -/
  | pushBc
  /-- `POP DE`, 0xD1, R225. -/
  | popDe
  /-- `PUSH DE`, 0xD5, R224. -/
  | pushDe
  /-- `LDH (a8),A`, 0xE0, R214. -/
  | ldhIndA8A (n : Byte)
  /-- `POP HL`, 0xE1, R225. -/
  | popHl
  /-- `LDH (C),A`, 0xE2, R212. -/
  | ldhIndCA
  /-- `PUSH HL`, 0xE5, R224. -/
  | pushHl
  /-- `LD (a16),A`, 0xEA, R210. -/
  | ldIndA16A (a : Word)
  /-- `LDH A,(a8)`, 0xF0, R213. -/
  | ldhAIndA8 (n : Byte)
  /-- `POP AF`, 0xF1, R226. -/
  | popAf
  /-- `LDH A,(C)`, 0xF2, R211. -/
  | ldhAIndC
  /-- `PUSH AF`, 0xF5, R224. -/
  | pushAf
  /-- `LD HL,SP+e8`, 0xF8, R223. -/
  | ldHlSpE8 (e : Byte)
  /-- `LD SP,HL`, 0xF9, R222. -/
  | ldSpHl
  /-- `LD A,(a16)`, 0xFA, R209. -/
  | ldAIndA16 (a : Word)
  -- 41_alu8.md
  /-- `INC B`, 0x04, R265. -/
  | incB
  /-- `DEC B`, 0x05, R267. -/
  | decB
  /-- `RLCA`, 0x07, R273. -/
  | rlca
  /-- `INC C`, 0x0C, R265. -/
  | incC
  /-- `DEC C`, 0x0D, R267. -/
  | decC
  /-- `RRCA`, 0x0F, R274. -/
  | rrca
  /-- `INC D`, 0x14, R265. -/
  | incD
  /-- `DEC D`, 0x15, R267. -/
  | decD
  /-- `RLA`, 0x17, R275. -/
  | rla
  /-- `INC E`, 0x1C, R265. -/
  | incE
  /-- `DEC E`, 0x1D, R267. -/
  | decE
  /-- `RRA`, 0x1F, R276. -/
  | rra
  /-- `INC H`, 0x24, R265. -/
  | incH
  /-- `DEC H`, 0x25, R267. -/
  | decH
  /-- `DAA`, 0x27, R269. -/
  | daa
  /-- `INC L`, 0x2C, R265. -/
  | incL
  /-- `DEC L`, 0x2D, R267. -/
  | decL
  /-- `CPL`, 0x2F, R270. -/
  | cpl
  /-- `INC (HL)`, 0x34, R266. -/
  | incIndHl
  /-- `DEC (HL)`, 0x35, R268. -/
  | decIndHl
  /-- `SCF`, 0x37, R271. -/
  | scf
  /-- `INC A`, 0x3C, R265. -/
  | incA
  /-- `DEC A`, 0x3D, R267. -/
  | decA
  /-- `CCF`, 0x3F, R272. -/
  | ccf
  /-- `ADD A,B`, 0x80, R241. -/
  | addAB
  /-- `ADD A,C`, 0x81, R241. -/
  | addAC
  /-- `ADD A,D`, 0x82, R241. -/
  | addAD
  /-- `ADD A,E`, 0x83, R241. -/
  | addAE
  /-- `ADD A,H`, 0x84, R241. -/
  | addAH
  /-- `ADD A,L`, 0x85, R241. -/
  | addAL
  /-- `ADD A,(HL)`, 0x86, R242. -/
  | addAIndHl
  /-- `ADD A,A`, 0x87, R241. -/
  | addAA
  /-- `ADC A,B`, 0x88, R244. -/
  | adcAB
  /-- `ADC A,C`, 0x89, R244. -/
  | adcAC
  /-- `ADC A,D`, 0x8A, R244. -/
  | adcAD
  /-- `ADC A,E`, 0x8B, R244. -/
  | adcAE
  /-- `ADC A,H`, 0x8C, R244. -/
  | adcAH
  /-- `ADC A,L`, 0x8D, R244. -/
  | adcAL
  /-- `ADC A,(HL)`, 0x8E, R245. -/
  | adcAIndHl
  /-- `ADC A,A`, 0x8F, R244. -/
  | adcAA
  /-- `SUB A,B`, 0x90, R247. -/
  | subAB
  /-- `SUB A,C`, 0x91, R247. -/
  | subAC
  /-- `SUB A,D`, 0x92, R247. -/
  | subAD
  /-- `SUB A,E`, 0x93, R247. -/
  | subAE
  /-- `SUB A,H`, 0x94, R247. -/
  | subAH
  /-- `SUB A,L`, 0x95, R247. -/
  | subAL
  /-- `SUB A,(HL)`, 0x96, R248. -/
  | subAIndHl
  /-- `SUB A,A`, 0x97, R247. -/
  | subAA
  /-- `SBC A,B`, 0x98, R250. -/
  | sbcAB
  /-- `SBC A,C`, 0x99, R250. -/
  | sbcAC
  /-- `SBC A,D`, 0x9A, R250. -/
  | sbcAD
  /-- `SBC A,E`, 0x9B, R250. -/
  | sbcAE
  /-- `SBC A,H`, 0x9C, R250. -/
  | sbcAH
  /-- `SBC A,L`, 0x9D, R250. -/
  | sbcAL
  /-- `SBC A,(HL)`, 0x9E, R251. -/
  | sbcAIndHl
  /-- `SBC A,A`, 0x9F, R250. -/
  | sbcAA
  /-- `AND A,B`, 0xA0, R253. -/
  | andAB
  /-- `AND A,C`, 0xA1, R253. -/
  | andAC
  /-- `AND A,D`, 0xA2, R253. -/
  | andAD
  /-- `AND A,E`, 0xA3, R253. -/
  | andAE
  /-- `AND A,H`, 0xA4, R253. -/
  | andAH
  /-- `AND A,L`, 0xA5, R253. -/
  | andAL
  /-- `AND A,(HL)`, 0xA6, R254. -/
  | andAIndHl
  /-- `AND A,A`, 0xA7, R253. -/
  | andAA
  /-- `XOR A,B`, 0xA8, R256. -/
  | xorAB
  /-- `XOR A,C`, 0xA9, R256. -/
  | xorAC
  /-- `XOR A,D`, 0xAA, R256. -/
  | xorAD
  /-- `XOR A,E`, 0xAB, R256. -/
  | xorAE
  /-- `XOR A,H`, 0xAC, R256. -/
  | xorAH
  /-- `XOR A,L`, 0xAD, R256. -/
  | xorAL
  /-- `XOR A,(HL)`, 0xAE, R257. -/
  | xorAIndHl
  /-- `XOR A,A`, 0xAF, R256. -/
  | xorAA
  /-- `OR A,B`, 0xB0, R259. -/
  | orAB
  /-- `OR A,C`, 0xB1, R259. -/
  | orAC
  /-- `OR A,D`, 0xB2, R259. -/
  | orAD
  /-- `OR A,E`, 0xB3, R259. -/
  | orAE
  /-- `OR A,H`, 0xB4, R259. -/
  | orAH
  /-- `OR A,L`, 0xB5, R259. -/
  | orAL
  /-- `OR A,(HL)`, 0xB6, R260. -/
  | orAIndHl
  /-- `OR A,A`, 0xB7, R259. -/
  | orAA
  /-- `CP A,B`, 0xB8, R262. -/
  | cpAB
  /-- `CP A,C`, 0xB9, R262. -/
  | cpAC
  /-- `CP A,D`, 0xBA, R262. -/
  | cpAD
  /-- `CP A,E`, 0xBB, R262. -/
  | cpAE
  /-- `CP A,H`, 0xBC, R262. -/
  | cpAH
  /-- `CP A,L`, 0xBD, R262. -/
  | cpAL
  /-- `CP A,(HL)`, 0xBE, R263. -/
  | cpAIndHl
  /-- `CP A,A`, 0xBF, R262. -/
  | cpAA
  /-- `ADD A,d8`, 0xC6, R243. -/
  | addAD8 (d : Byte)
  /-- `ADC A,d8`, 0xCE, R246. -/
  | adcAD8 (d : Byte)
  /-- `SUB A,d8`, 0xD6, R249. -/
  | subAD8 (d : Byte)
  /-- `SBC A,d8`, 0xDE, R252. -/
  | sbcAD8 (d : Byte)
  /-- `AND A,d8`, 0xE6, R255. -/
  | andAD8 (d : Byte)
  /-- `XOR A,d8`, 0xEE, R258. -/
  | xorAD8 (d : Byte)
  /-- `OR A,d8`, 0xF6, R261. -/
  | orAD8 (d : Byte)
  /-- `CP A,d8`, 0xFE, R264. -/
  | cpAD8 (d : Byte)
  -- 42_alu16.md
  /-- `INC BC`, 0x03, R281. -/
  | incBc
  /-- `ADD HL,BC`, 0x09, R283. -/
  | addHlBc
  /-- `DEC BC`, 0x0B, R282. -/
  | decBc
  /-- `INC DE`, 0x13, R281. -/
  | incDe
  /-- `ADD HL,DE`, 0x19, R283. -/
  | addHlDe
  /-- `DEC DE`, 0x1B, R282. -/
  | decDe
  /-- `INC HL`, 0x23, R281. -/
  | incHl
  /-- `ADD HL,HL`, 0x29, R283. -/
  | addHlHl
  /-- `DEC HL`, 0x2B, R282. -/
  | decHl
  /-- `INC SP`, 0x33, R281. -/
  | incSp
  /-- `ADD HL,SP`, 0x39, R283. -/
  | addHlSp
  /-- `DEC SP`, 0x3B, R282. -/
  | decSp
  /-- `ADD SP,e8`, 0xE8, R284. -/
  | addSpE8 (e : Byte)
  -- 43_control.md
  /-- `JR e8`, 0x18, R304. -/
  | jrE8 (e : Byte)
  /-- `JR NZ,e8`, 0x20, R305. -/
  | jrNzE8 (e : Byte)
  /-- `JR Z,e8`, 0x28, R305. -/
  | jrZE8 (e : Byte)
  /-- `JR NC,e8`, 0x30, R305. -/
  | jrNcE8 (e : Byte)
  /-- `JR C,e8`, 0x38, R305. -/
  | jrCE8 (e : Byte)
  /-- `RET NZ`, 0xC0, R309. -/
  | retNz
  /-- `JP NZ,a16`, 0xC2, R302. -/
  | jpNzA16 (a : Word)
  /-- `JP a16`, 0xC3, R301. -/
  | jpA16 (a : Word)
  /-- `CALL NZ,a16`, 0xC4, R307. -/
  | callNzA16 (a : Word)
  /-- `RST 00h`, 0xC7, R312. -/
  | rst00
  /-- `RET Z`, 0xC8, R309. -/
  | retZ
  /-- `RET`, 0xC9, R308. -/
  | ret
  /-- `JP Z,a16`, 0xCA, R302. -/
  | jpZA16 (a : Word)
  /-- `CALL Z,a16`, 0xCC, R307. -/
  | callZA16 (a : Word)
  /-- `CALL a16`, 0xCD, R306. -/
  | callA16 (a : Word)
  /-- `RST 08h`, 0xCF, R312. -/
  | rst08
  /-- `RET NC`, 0xD0, R309. -/
  | retNc
  /-- `JP NC,a16`, 0xD2, R302. -/
  | jpNcA16 (a : Word)
  /-- `CALL NC,a16`, 0xD4, R307. -/
  | callNcA16 (a : Word)
  /-- `RST 10h`, 0xD7, R312. -/
  | rst10
  /-- `RET C`, 0xD8, R309. -/
  | retC
  /-- `RETI`, 0xD9, R310. -/
  | reti
  /-- `JP C,a16`, 0xDA, R302. -/
  | jpCA16 (a : Word)
  /-- `CALL C,a16`, 0xDC, R307. -/
  | callCA16 (a : Word)
  /-- `RST 18h`, 0xDF, R312. -/
  | rst18
  /-- `RST 20h`, 0xE7, R312. -/
  | rst20
  /-- `JP HL`, 0xE9, R303. -/
  | jpHl
  /-- `RST 28h`, 0xEF, R312. -/
  | rst28
  /-- `RST 30h`, 0xF7, R312. -/
  | rst30
  /-- `RST 38h`, 0xFF, R312. -/
  | rst38
  -- 44_system.md
  /-- `NOP`, 0x00, R330. -/
  | nop
  /-- `STOP`, 0x10, R332. -/
  | stop
  /-- `HALT`, 0x76, R331. -/
  | halt
  /-- `ILLEGAL_D3`, 0xD3, R335. -/
  | illegalD3
  /-- `ILLEGAL_DB`, 0xDB, R335. -/
  | illegalDB
  /-- `ILLEGAL_DD`, 0xDD, R335. -/
  | illegalDD
  /-- `ILLEGAL_E3`, 0xE3, R335. -/
  | illegalE3
  /-- `ILLEGAL_E4`, 0xE4, R335. -/
  | illegalE4
  /-- `ILLEGAL_EB`, 0xEB, R335. -/
  | illegalEB
  /-- `ILLEGAL_EC`, 0xEC, R335. -/
  | illegalEC
  /-- `ILLEGAL_ED`, 0xED, R335. -/
  | illegalED
  /-- `DI`, 0xF3, R333. -/
  | di
  /-- `ILLEGAL_F4`, 0xF4, R335. -/
  | illegalF4
  /-- `EI`, 0xFB, R334. -/
  | ei
  /-- `ILLEGAL_FC`, 0xFC, R335. -/
  | illegalFC
  /-- `ILLEGAL_FD`, 0xFD, R335. -/
  | illegalFD
  -- 44_system.md R336
  /-- `PREFIX CB`, 0xCB, R336. -/
  | prefixCb
  -- 45_cb.md
  /-- `RLC B`, 0xCB 0x00, R351. -/
  | rlcB
  /-- `RLC C`, 0xCB 0x01, R351. -/
  | rlcC
  /-- `RLC D`, 0xCB 0x02, R351. -/
  | rlcD
  /-- `RLC E`, 0xCB 0x03, R351. -/
  | rlcE
  /-- `RLC H`, 0xCB 0x04, R351. -/
  | rlcH
  /-- `RLC L`, 0xCB 0x05, R351. -/
  | rlcL
  /-- `RLC (HL)`, 0xCB 0x06, R352. -/
  | rlcIndHl
  /-- `RLC A`, 0xCB 0x07, R351. -/
  | rlcA
  /-- `RRC B`, 0xCB 0x08, R353. -/
  | rrcB
  /-- `RRC C`, 0xCB 0x09, R353. -/
  | rrcC
  /-- `RRC D`, 0xCB 0x0A, R353. -/
  | rrcD
  /-- `RRC E`, 0xCB 0x0B, R353. -/
  | rrcE
  /-- `RRC H`, 0xCB 0x0C, R353. -/
  | rrcH
  /-- `RRC L`, 0xCB 0x0D, R353. -/
  | rrcL
  /-- `RRC (HL)`, 0xCB 0x0E, R354. -/
  | rrcIndHl
  /-- `RRC A`, 0xCB 0x0F, R353. -/
  | rrcA
  /-- `RL B`, 0xCB 0x10, R355. -/
  | rlB
  /-- `RL C`, 0xCB 0x11, R355. -/
  | rlC
  /-- `RL D`, 0xCB 0x12, R355. -/
  | rlD
  /-- `RL E`, 0xCB 0x13, R355. -/
  | rlE
  /-- `RL H`, 0xCB 0x14, R355. -/
  | rlH
  /-- `RL L`, 0xCB 0x15, R355. -/
  | rlL
  /-- `RL (HL)`, 0xCB 0x16, R356. -/
  | rlIndHl
  /-- `RL A`, 0xCB 0x17, R355. -/
  | rlA
  /-- `RR B`, 0xCB 0x18, R357. -/
  | rrB
  /-- `RR C`, 0xCB 0x19, R357. -/
  | rrC
  /-- `RR D`, 0xCB 0x1A, R357. -/
  | rrD
  /-- `RR E`, 0xCB 0x1B, R357. -/
  | rrE
  /-- `RR H`, 0xCB 0x1C, R357. -/
  | rrH
  /-- `RR L`, 0xCB 0x1D, R357. -/
  | rrL
  /-- `RR (HL)`, 0xCB 0x1E, R358. -/
  | rrIndHl
  /-- `RR A`, 0xCB 0x1F, R357. -/
  | rrA
  /-- `SLA B`, 0xCB 0x20, R359. -/
  | slaB
  /-- `SLA C`, 0xCB 0x21, R359. -/
  | slaC
  /-- `SLA D`, 0xCB 0x22, R359. -/
  | slaD
  /-- `SLA E`, 0xCB 0x23, R359. -/
  | slaE
  /-- `SLA H`, 0xCB 0x24, R359. -/
  | slaH
  /-- `SLA L`, 0xCB 0x25, R359. -/
  | slaL
  /-- `SLA (HL)`, 0xCB 0x26, R360. -/
  | slaIndHl
  /-- `SLA A`, 0xCB 0x27, R359. -/
  | slaA
  /-- `SRA B`, 0xCB 0x28, R361. -/
  | sraB
  /-- `SRA C`, 0xCB 0x29, R361. -/
  | sraC
  /-- `SRA D`, 0xCB 0x2A, R361. -/
  | sraD
  /-- `SRA E`, 0xCB 0x2B, R361. -/
  | sraE
  /-- `SRA H`, 0xCB 0x2C, R361. -/
  | sraH
  /-- `SRA L`, 0xCB 0x2D, R361. -/
  | sraL
  /-- `SRA (HL)`, 0xCB 0x2E, R362. -/
  | sraIndHl
  /-- `SRA A`, 0xCB 0x2F, R361. -/
  | sraA
  /-- `SWAP B`, 0xCB 0x30, R363. -/
  | swapB
  /-- `SWAP C`, 0xCB 0x31, R363. -/
  | swapC
  /-- `SWAP D`, 0xCB 0x32, R363. -/
  | swapD
  /-- `SWAP E`, 0xCB 0x33, R363. -/
  | swapE
  /-- `SWAP H`, 0xCB 0x34, R363. -/
  | swapH
  /-- `SWAP L`, 0xCB 0x35, R363. -/
  | swapL
  /-- `SWAP (HL)`, 0xCB 0x36, R364. -/
  | swapIndHl
  /-- `SWAP A`, 0xCB 0x37, R363. -/
  | swapA
  /-- `SRL B`, 0xCB 0x38, R365. -/
  | srlB
  /-- `SRL C`, 0xCB 0x39, R365. -/
  | srlC
  /-- `SRL D`, 0xCB 0x3A, R365. -/
  | srlD
  /-- `SRL E`, 0xCB 0x3B, R365. -/
  | srlE
  /-- `SRL H`, 0xCB 0x3C, R365. -/
  | srlH
  /-- `SRL L`, 0xCB 0x3D, R365. -/
  | srlL
  /-- `SRL (HL)`, 0xCB 0x3E, R366. -/
  | srlIndHl
  /-- `SRL A`, 0xCB 0x3F, R365. -/
  | srlA
  /-- `BIT 0,B`, 0xCB 0x40, R367. -/
  | bit0B
  /-- `BIT 0,C`, 0xCB 0x41, R367. -/
  | bit0C
  /-- `BIT 0,D`, 0xCB 0x42, R367. -/
  | bit0D
  /-- `BIT 0,E`, 0xCB 0x43, R367. -/
  | bit0E
  /-- `BIT 0,H`, 0xCB 0x44, R367. -/
  | bit0H
  /-- `BIT 0,L`, 0xCB 0x45, R367. -/
  | bit0L
  /-- `BIT 0,(HL)`, 0xCB 0x46, R368. -/
  | bit0IndHl
  /-- `BIT 0,A`, 0xCB 0x47, R367. -/
  | bit0A
  /-- `BIT 1,B`, 0xCB 0x48, R367. -/
  | bit1B
  /-- `BIT 1,C`, 0xCB 0x49, R367. -/
  | bit1C
  /-- `BIT 1,D`, 0xCB 0x4A, R367. -/
  | bit1D
  /-- `BIT 1,E`, 0xCB 0x4B, R367. -/
  | bit1E
  /-- `BIT 1,H`, 0xCB 0x4C, R367. -/
  | bit1H
  /-- `BIT 1,L`, 0xCB 0x4D, R367. -/
  | bit1L
  /-- `BIT 1,(HL)`, 0xCB 0x4E, R368. -/
  | bit1IndHl
  /-- `BIT 1,A`, 0xCB 0x4F, R367. -/
  | bit1A
  /-- `BIT 2,B`, 0xCB 0x50, R367. -/
  | bit2B
  /-- `BIT 2,C`, 0xCB 0x51, R367. -/
  | bit2C
  /-- `BIT 2,D`, 0xCB 0x52, R367. -/
  | bit2D
  /-- `BIT 2,E`, 0xCB 0x53, R367. -/
  | bit2E
  /-- `BIT 2,H`, 0xCB 0x54, R367. -/
  | bit2H
  /-- `BIT 2,L`, 0xCB 0x55, R367. -/
  | bit2L
  /-- `BIT 2,(HL)`, 0xCB 0x56, R368. -/
  | bit2IndHl
  /-- `BIT 2,A`, 0xCB 0x57, R367. -/
  | bit2A
  /-- `BIT 3,B`, 0xCB 0x58, R367. -/
  | bit3B
  /-- `BIT 3,C`, 0xCB 0x59, R367. -/
  | bit3C
  /-- `BIT 3,D`, 0xCB 0x5A, R367. -/
  | bit3D
  /-- `BIT 3,E`, 0xCB 0x5B, R367. -/
  | bit3E
  /-- `BIT 3,H`, 0xCB 0x5C, R367. -/
  | bit3H
  /-- `BIT 3,L`, 0xCB 0x5D, R367. -/
  | bit3L
  /-- `BIT 3,(HL)`, 0xCB 0x5E, R368. -/
  | bit3IndHl
  /-- `BIT 3,A`, 0xCB 0x5F, R367. -/
  | bit3A
  /-- `BIT 4,B`, 0xCB 0x60, R367. -/
  | bit4B
  /-- `BIT 4,C`, 0xCB 0x61, R367. -/
  | bit4C
  /-- `BIT 4,D`, 0xCB 0x62, R367. -/
  | bit4D
  /-- `BIT 4,E`, 0xCB 0x63, R367. -/
  | bit4E
  /-- `BIT 4,H`, 0xCB 0x64, R367. -/
  | bit4H
  /-- `BIT 4,L`, 0xCB 0x65, R367. -/
  | bit4L
  /-- `BIT 4,(HL)`, 0xCB 0x66, R368. -/
  | bit4IndHl
  /-- `BIT 4,A`, 0xCB 0x67, R367. -/
  | bit4A
  /-- `BIT 5,B`, 0xCB 0x68, R367. -/
  | bit5B
  /-- `BIT 5,C`, 0xCB 0x69, R367. -/
  | bit5C
  /-- `BIT 5,D`, 0xCB 0x6A, R367. -/
  | bit5D
  /-- `BIT 5,E`, 0xCB 0x6B, R367. -/
  | bit5E
  /-- `BIT 5,H`, 0xCB 0x6C, R367. -/
  | bit5H
  /-- `BIT 5,L`, 0xCB 0x6D, R367. -/
  | bit5L
  /-- `BIT 5,(HL)`, 0xCB 0x6E, R368. -/
  | bit5IndHl
  /-- `BIT 5,A`, 0xCB 0x6F, R367. -/
  | bit5A
  /-- `BIT 6,B`, 0xCB 0x70, R367. -/
  | bit6B
  /-- `BIT 6,C`, 0xCB 0x71, R367. -/
  | bit6C
  /-- `BIT 6,D`, 0xCB 0x72, R367. -/
  | bit6D
  /-- `BIT 6,E`, 0xCB 0x73, R367. -/
  | bit6E
  /-- `BIT 6,H`, 0xCB 0x74, R367. -/
  | bit6H
  /-- `BIT 6,L`, 0xCB 0x75, R367. -/
  | bit6L
  /-- `BIT 6,(HL)`, 0xCB 0x76, R368. -/
  | bit6IndHl
  /-- `BIT 6,A`, 0xCB 0x77, R367. -/
  | bit6A
  /-- `BIT 7,B`, 0xCB 0x78, R367. -/
  | bit7B
  /-- `BIT 7,C`, 0xCB 0x79, R367. -/
  | bit7C
  /-- `BIT 7,D`, 0xCB 0x7A, R367. -/
  | bit7D
  /-- `BIT 7,E`, 0xCB 0x7B, R367. -/
  | bit7E
  /-- `BIT 7,H`, 0xCB 0x7C, R367. -/
  | bit7H
  /-- `BIT 7,L`, 0xCB 0x7D, R367. -/
  | bit7L
  /-- `BIT 7,(HL)`, 0xCB 0x7E, R368. -/
  | bit7IndHl
  /-- `BIT 7,A`, 0xCB 0x7F, R367. -/
  | bit7A
  /-- `RES 0,B`, 0xCB 0x80, R369. -/
  | res0B
  /-- `RES 0,C`, 0xCB 0x81, R369. -/
  | res0C
  /-- `RES 0,D`, 0xCB 0x82, R369. -/
  | res0D
  /-- `RES 0,E`, 0xCB 0x83, R369. -/
  | res0E
  /-- `RES 0,H`, 0xCB 0x84, R369. -/
  | res0H
  /-- `RES 0,L`, 0xCB 0x85, R369. -/
  | res0L
  /-- `RES 0,(HL)`, 0xCB 0x86, R370. -/
  | res0IndHl
  /-- `RES 0,A`, 0xCB 0x87, R369. -/
  | res0A
  /-- `RES 1,B`, 0xCB 0x88, R369. -/
  | res1B
  /-- `RES 1,C`, 0xCB 0x89, R369. -/
  | res1C
  /-- `RES 1,D`, 0xCB 0x8A, R369. -/
  | res1D
  /-- `RES 1,E`, 0xCB 0x8B, R369. -/
  | res1E
  /-- `RES 1,H`, 0xCB 0x8C, R369. -/
  | res1H
  /-- `RES 1,L`, 0xCB 0x8D, R369. -/
  | res1L
  /-- `RES 1,(HL)`, 0xCB 0x8E, R370. -/
  | res1IndHl
  /-- `RES 1,A`, 0xCB 0x8F, R369. -/
  | res1A
  /-- `RES 2,B`, 0xCB 0x90, R369. -/
  | res2B
  /-- `RES 2,C`, 0xCB 0x91, R369. -/
  | res2C
  /-- `RES 2,D`, 0xCB 0x92, R369. -/
  | res2D
  /-- `RES 2,E`, 0xCB 0x93, R369. -/
  | res2E
  /-- `RES 2,H`, 0xCB 0x94, R369. -/
  | res2H
  /-- `RES 2,L`, 0xCB 0x95, R369. -/
  | res2L
  /-- `RES 2,(HL)`, 0xCB 0x96, R370. -/
  | res2IndHl
  /-- `RES 2,A`, 0xCB 0x97, R369. -/
  | res2A
  /-- `RES 3,B`, 0xCB 0x98, R369. -/
  | res3B
  /-- `RES 3,C`, 0xCB 0x99, R369. -/
  | res3C
  /-- `RES 3,D`, 0xCB 0x9A, R369. -/
  | res3D
  /-- `RES 3,E`, 0xCB 0x9B, R369. -/
  | res3E
  /-- `RES 3,H`, 0xCB 0x9C, R369. -/
  | res3H
  /-- `RES 3,L`, 0xCB 0x9D, R369. -/
  | res3L
  /-- `RES 3,(HL)`, 0xCB 0x9E, R370. -/
  | res3IndHl
  /-- `RES 3,A`, 0xCB 0x9F, R369. -/
  | res3A
  /-- `RES 4,B`, 0xCB 0xA0, R369. -/
  | res4B
  /-- `RES 4,C`, 0xCB 0xA1, R369. -/
  | res4C
  /-- `RES 4,D`, 0xCB 0xA2, R369. -/
  | res4D
  /-- `RES 4,E`, 0xCB 0xA3, R369. -/
  | res4E
  /-- `RES 4,H`, 0xCB 0xA4, R369. -/
  | res4H
  /-- `RES 4,L`, 0xCB 0xA5, R369. -/
  | res4L
  /-- `RES 4,(HL)`, 0xCB 0xA6, R370. -/
  | res4IndHl
  /-- `RES 4,A`, 0xCB 0xA7, R369. -/
  | res4A
  /-- `RES 5,B`, 0xCB 0xA8, R369. -/
  | res5B
  /-- `RES 5,C`, 0xCB 0xA9, R369. -/
  | res5C
  /-- `RES 5,D`, 0xCB 0xAA, R369. -/
  | res5D
  /-- `RES 5,E`, 0xCB 0xAB, R369. -/
  | res5E
  /-- `RES 5,H`, 0xCB 0xAC, R369. -/
  | res5H
  /-- `RES 5,L`, 0xCB 0xAD, R369. -/
  | res5L
  /-- `RES 5,(HL)`, 0xCB 0xAE, R370. -/
  | res5IndHl
  /-- `RES 5,A`, 0xCB 0xAF, R369. -/
  | res5A
  /-- `RES 6,B`, 0xCB 0xB0, R369. -/
  | res6B
  /-- `RES 6,C`, 0xCB 0xB1, R369. -/
  | res6C
  /-- `RES 6,D`, 0xCB 0xB2, R369. -/
  | res6D
  /-- `RES 6,E`, 0xCB 0xB3, R369. -/
  | res6E
  /-- `RES 6,H`, 0xCB 0xB4, R369. -/
  | res6H
  /-- `RES 6,L`, 0xCB 0xB5, R369. -/
  | res6L
  /-- `RES 6,(HL)`, 0xCB 0xB6, R370. -/
  | res6IndHl
  /-- `RES 6,A`, 0xCB 0xB7, R369. -/
  | res6A
  /-- `RES 7,B`, 0xCB 0xB8, R369. -/
  | res7B
  /-- `RES 7,C`, 0xCB 0xB9, R369. -/
  | res7C
  /-- `RES 7,D`, 0xCB 0xBA, R369. -/
  | res7D
  /-- `RES 7,E`, 0xCB 0xBB, R369. -/
  | res7E
  /-- `RES 7,H`, 0xCB 0xBC, R369. -/
  | res7H
  /-- `RES 7,L`, 0xCB 0xBD, R369. -/
  | res7L
  /-- `RES 7,(HL)`, 0xCB 0xBE, R370. -/
  | res7IndHl
  /-- `RES 7,A`, 0xCB 0xBF, R369. -/
  | res7A
  /-- `SET 0,B`, 0xCB 0xC0, R371. -/
  | set0B
  /-- `SET 0,C`, 0xCB 0xC1, R371. -/
  | set0C
  /-- `SET 0,D`, 0xCB 0xC2, R371. -/
  | set0D
  /-- `SET 0,E`, 0xCB 0xC3, R371. -/
  | set0E
  /-- `SET 0,H`, 0xCB 0xC4, R371. -/
  | set0H
  /-- `SET 0,L`, 0xCB 0xC5, R371. -/
  | set0L
  /-- `SET 0,(HL)`, 0xCB 0xC6, R372. -/
  | set0IndHl
  /-- `SET 0,A`, 0xCB 0xC7, R371. -/
  | set0A
  /-- `SET 1,B`, 0xCB 0xC8, R371. -/
  | set1B
  /-- `SET 1,C`, 0xCB 0xC9, R371. -/
  | set1C
  /-- `SET 1,D`, 0xCB 0xCA, R371. -/
  | set1D
  /-- `SET 1,E`, 0xCB 0xCB, R371. -/
  | set1E
  /-- `SET 1,H`, 0xCB 0xCC, R371. -/
  | set1H
  /-- `SET 1,L`, 0xCB 0xCD, R371. -/
  | set1L
  /-- `SET 1,(HL)`, 0xCB 0xCE, R372. -/
  | set1IndHl
  /-- `SET 1,A`, 0xCB 0xCF, R371. -/
  | set1A
  /-- `SET 2,B`, 0xCB 0xD0, R371. -/
  | set2B
  /-- `SET 2,C`, 0xCB 0xD1, R371. -/
  | set2C
  /-- `SET 2,D`, 0xCB 0xD2, R371. -/
  | set2D
  /-- `SET 2,E`, 0xCB 0xD3, R371. -/
  | set2E
  /-- `SET 2,H`, 0xCB 0xD4, R371. -/
  | set2H
  /-- `SET 2,L`, 0xCB 0xD5, R371. -/
  | set2L
  /-- `SET 2,(HL)`, 0xCB 0xD6, R372. -/
  | set2IndHl
  /-- `SET 2,A`, 0xCB 0xD7, R371. -/
  | set2A
  /-- `SET 3,B`, 0xCB 0xD8, R371. -/
  | set3B
  /-- `SET 3,C`, 0xCB 0xD9, R371. -/
  | set3C
  /-- `SET 3,D`, 0xCB 0xDA, R371. -/
  | set3D
  /-- `SET 3,E`, 0xCB 0xDB, R371. -/
  | set3E
  /-- `SET 3,H`, 0xCB 0xDC, R371. -/
  | set3H
  /-- `SET 3,L`, 0xCB 0xDD, R371. -/
  | set3L
  /-- `SET 3,(HL)`, 0xCB 0xDE, R372. -/
  | set3IndHl
  /-- `SET 3,A`, 0xCB 0xDF, R371. -/
  | set3A
  /-- `SET 4,B`, 0xCB 0xE0, R371. -/
  | set4B
  /-- `SET 4,C`, 0xCB 0xE1, R371. -/
  | set4C
  /-- `SET 4,D`, 0xCB 0xE2, R371. -/
  | set4D
  /-- `SET 4,E`, 0xCB 0xE3, R371. -/
  | set4E
  /-- `SET 4,H`, 0xCB 0xE4, R371. -/
  | set4H
  /-- `SET 4,L`, 0xCB 0xE5, R371. -/
  | set4L
  /-- `SET 4,(HL)`, 0xCB 0xE6, R372. -/
  | set4IndHl
  /-- `SET 4,A`, 0xCB 0xE7, R371. -/
  | set4A
  /-- `SET 5,B`, 0xCB 0xE8, R371. -/
  | set5B
  /-- `SET 5,C`, 0xCB 0xE9, R371. -/
  | set5C
  /-- `SET 5,D`, 0xCB 0xEA, R371. -/
  | set5D
  /-- `SET 5,E`, 0xCB 0xEB, R371. -/
  | set5E
  /-- `SET 5,H`, 0xCB 0xEC, R371. -/
  | set5H
  /-- `SET 5,L`, 0xCB 0xED, R371. -/
  | set5L
  /-- `SET 5,(HL)`, 0xCB 0xEE, R372. -/
  | set5IndHl
  /-- `SET 5,A`, 0xCB 0xEF, R371. -/
  | set5A
  /-- `SET 6,B`, 0xCB 0xF0, R371. -/
  | set6B
  /-- `SET 6,C`, 0xCB 0xF1, R371. -/
  | set6C
  /-- `SET 6,D`, 0xCB 0xF2, R371. -/
  | set6D
  /-- `SET 6,E`, 0xCB 0xF3, R371. -/
  | set6E
  /-- `SET 6,H`, 0xCB 0xF4, R371. -/
  | set6H
  /-- `SET 6,L`, 0xCB 0xF5, R371. -/
  | set6L
  /-- `SET 6,(HL)`, 0xCB 0xF6, R372. -/
  | set6IndHl
  /-- `SET 6,A`, 0xCB 0xF7, R371. -/
  | set6A
  /-- `SET 7,B`, 0xCB 0xF8, R371. -/
  | set7B
  /-- `SET 7,C`, 0xCB 0xF9, R371. -/
  | set7C
  /-- `SET 7,D`, 0xCB 0xFA, R371. -/
  | set7D
  /-- `SET 7,E`, 0xCB 0xFB, R371. -/
  | set7E
  /-- `SET 7,H`, 0xCB 0xFC, R371. -/
  | set7H
  /-- `SET 7,L`, 0xCB 0xFD, R371. -/
  | set7L
  /-- `SET 7,(HL)`, 0xCB 0xFE, R372. -/
  | set7IndHl
  /-- `SET 7,A`, 0xCB 0xFF, R371. -/
  | set7A
deriving DecidableEq, Repr

/-! ### The rows of a group by their fields

Each function lists the rows of one group of the maps R162 and R165; statements about a group name its rows through it. -/

/-- The 49 rows `LD r,r'` (R200): destination, source. -/
def Instr.rowLd : R8 → R8 → Instr
  | .b, .b => .ldBB
  | .b, .c => .ldBC
  | .b, .d => .ldBD
  | .b, .e => .ldBE
  | .b, .h => .ldBH
  | .b, .l => .ldBL
  | .b, .a => .ldBA
  | .c, .b => .ldCB
  | .c, .c => .ldCC
  | .c, .d => .ldCD
  | .c, .e => .ldCE
  | .c, .h => .ldCH
  | .c, .l => .ldCL
  | .c, .a => .ldCA
  | .d, .b => .ldDB
  | .d, .c => .ldDC
  | .d, .d => .ldDD
  | .d, .e => .ldDE
  | .d, .h => .ldDH
  | .d, .l => .ldDL
  | .d, .a => .ldDA
  | .e, .b => .ldEB
  | .e, .c => .ldEC
  | .e, .d => .ldED
  | .e, .e => .ldEE
  | .e, .h => .ldEH
  | .e, .l => .ldEL
  | .e, .a => .ldEA
  | .h, .b => .ldHB
  | .h, .c => .ldHC
  | .h, .d => .ldHD
  | .h, .e => .ldHE
  | .h, .h => .ldHH
  | .h, .l => .ldHL
  | .h, .a => .ldHA
  | .l, .b => .ldLB
  | .l, .c => .ldLC
  | .l, .d => .ldLD
  | .l, .e => .ldLE
  | .l, .h => .ldLH
  | .l, .l => .ldLL
  | .l, .a => .ldLA
  | .a, .b => .ldAB
  | .a, .c => .ldAC
  | .a, .d => .ldAD
  | .a, .e => .ldAE
  | .a, .h => .ldAH
  | .a, .l => .ldAL
  | .a, .a => .ldAA

/-- The rows `LD r,d8` (R201). -/
def Instr.rowLdImm : R8 → Byte → Instr
  | .b, d => .ldBD8 d
  | .c, d => .ldCD8 d
  | .d, d => .ldDD8 d
  | .e, d => .ldED8 d
  | .h, d => .ldHD8 d
  | .l, d => .ldLD8 d
  | .a, d => .ldAD8 d

/-- The rows `LD r,(HL)` (R202). -/
def Instr.rowLdFromHl : R8 → Instr
  | .b => .ldBIndHl
  | .c => .ldCIndHl
  | .d => .ldDIndHl
  | .e => .ldEIndHl
  | .h => .ldHIndHl
  | .l => .ldLIndHl
  | .a => .ldAIndHl

/-- The rows `LD (HL),r` (R203). -/
def Instr.rowLdToHl : R8 → Instr
  | .b => .ldIndHlB
  | .c => .ldIndHlC
  | .d => .ldIndHlD
  | .e => .ldIndHlE
  | .h => .ldIndHlH
  | .l => .ldIndHlL
  | .a => .ldIndHlA

/-- The rows `LD rr,d16` (R220). -/
def Instr.rowLdPair : R16 → Word → Instr
  | .bc, d => .ldBcD16 d
  | .de, d => .ldDeD16 d
  | .hl, d => .ldHlD16 d
  | .sp, d => .ldSpD16 d

/-- The rows `PUSH rr` (R224). -/
def Instr.rowPush : RStk → Instr
  | .bc => .pushBc
  | .de => .pushDe
  | .hl => .pushHl
  | .af => .pushAf

/-- The rows `POP rr` (R225, R226). -/
def Instr.rowPop : RStk → Instr
  | .bc => .popBc
  | .de => .popDe
  | .hl => .popHl
  | .af => .popAf

/-- The 64 rows of the ALU group on a register or (HL) (R241-R263). -/
def Instr.rowAlu : AluOp → Opnd8 → Instr
  | .add, .reg .b => .addAB
  | .add, .reg .c => .addAC
  | .add, .reg .d => .addAD
  | .add, .reg .e => .addAE
  | .add, .reg .h => .addAH
  | .add, .reg .l => .addAL
  | .add, .hlInd => .addAIndHl
  | .add, .reg .a => .addAA
  | .adc, .reg .b => .adcAB
  | .adc, .reg .c => .adcAC
  | .adc, .reg .d => .adcAD
  | .adc, .reg .e => .adcAE
  | .adc, .reg .h => .adcAH
  | .adc, .reg .l => .adcAL
  | .adc, .hlInd => .adcAIndHl
  | .adc, .reg .a => .adcAA
  | .sub, .reg .b => .subAB
  | .sub, .reg .c => .subAC
  | .sub, .reg .d => .subAD
  | .sub, .reg .e => .subAE
  | .sub, .reg .h => .subAH
  | .sub, .reg .l => .subAL
  | .sub, .hlInd => .subAIndHl
  | .sub, .reg .a => .subAA
  | .sbc, .reg .b => .sbcAB
  | .sbc, .reg .c => .sbcAC
  | .sbc, .reg .d => .sbcAD
  | .sbc, .reg .e => .sbcAE
  | .sbc, .reg .h => .sbcAH
  | .sbc, .reg .l => .sbcAL
  | .sbc, .hlInd => .sbcAIndHl
  | .sbc, .reg .a => .sbcAA
  | .and, .reg .b => .andAB
  | .and, .reg .c => .andAC
  | .and, .reg .d => .andAD
  | .and, .reg .e => .andAE
  | .and, .reg .h => .andAH
  | .and, .reg .l => .andAL
  | .and, .hlInd => .andAIndHl
  | .and, .reg .a => .andAA
  | .xor, .reg .b => .xorAB
  | .xor, .reg .c => .xorAC
  | .xor, .reg .d => .xorAD
  | .xor, .reg .e => .xorAE
  | .xor, .reg .h => .xorAH
  | .xor, .reg .l => .xorAL
  | .xor, .hlInd => .xorAIndHl
  | .xor, .reg .a => .xorAA
  | .or, .reg .b => .orAB
  | .or, .reg .c => .orAC
  | .or, .reg .d => .orAD
  | .or, .reg .e => .orAE
  | .or, .reg .h => .orAH
  | .or, .reg .l => .orAL
  | .or, .hlInd => .orAIndHl
  | .or, .reg .a => .orAA
  | .cp, .reg .b => .cpAB
  | .cp, .reg .c => .cpAC
  | .cp, .reg .d => .cpAD
  | .cp, .reg .e => .cpAE
  | .cp, .reg .h => .cpAH
  | .cp, .reg .l => .cpAL
  | .cp, .hlInd => .cpAIndHl
  | .cp, .reg .a => .cpAA

/-- The 8 rows of the ALU group on d8 (R243-R264). -/
def Instr.rowAluImm : AluOp → Byte → Instr
  | .add, d => .addAD8 d
  | .adc, d => .adcAD8 d
  | .sub, d => .subAD8 d
  | .sbc, d => .sbcAD8 d
  | .and, d => .andAD8 d
  | .xor, d => .xorAD8 d
  | .or, d => .orAD8 d
  | .cp, d => .cpAD8 d

/-- The rows `INC r` and `INC (HL)` (R265, R266). -/
def Instr.rowInc : Opnd8 → Instr
  | .reg .b => .incB
  | .reg .c => .incC
  | .reg .d => .incD
  | .reg .e => .incE
  | .reg .h => .incH
  | .reg .l => .incL
  | .hlInd => .incIndHl
  | .reg .a => .incA

/-- The rows `DEC r` and `DEC (HL)` (R267, R268). -/
def Instr.rowDec : Opnd8 → Instr
  | .reg .b => .decB
  | .reg .c => .decC
  | .reg .d => .decD
  | .reg .e => .decE
  | .reg .h => .decH
  | .reg .l => .decL
  | .hlInd => .decIndHl
  | .reg .a => .decA

/-- The rows `INC rr` (R281). -/
def Instr.rowIncPair : R16 → Instr
  | .bc => .incBc
  | .de => .incDe
  | .hl => .incHl
  | .sp => .incSp

/-- The rows `DEC rr` (R282). -/
def Instr.rowDecPair : R16 → Instr
  | .bc => .decBc
  | .de => .decDe
  | .hl => .decHl
  | .sp => .decSp

/-- The rows `ADD HL,rr` (R283). -/
def Instr.rowAddHl : R16 → Instr
  | .bc => .addHlBc
  | .de => .addHlDe
  | .hl => .addHlHl
  | .sp => .addHlSp

/-- The rows `JR cc,e8` (R305). -/
def Instr.rowJrIf : Cond → Byte → Instr
  | .nz, e => .jrNzE8 e
  | .z, e => .jrZE8 e
  | .nc, e => .jrNcE8 e
  | .c, e => .jrCE8 e

/-- The rows `JP cc,a16` (R302). -/
def Instr.rowJpIf : Cond → Word → Instr
  | .nz, a => .jpNzA16 a
  | .z, a => .jpZA16 a
  | .nc, a => .jpNcA16 a
  | .c, a => .jpCA16 a

/-- The rows `CALL cc,a16` (R307). -/
def Instr.rowCallIf : Cond → Word → Instr
  | .nz, a => .callNzA16 a
  | .z, a => .callZA16 a
  | .nc, a => .callNcA16 a
  | .c, a => .callCA16 a

/-- The rows `RET cc` (R309). -/
def Instr.rowRetIf : Cond → Instr
  | .nz => .retNz
  | .z => .retZ
  | .nc => .retNc
  | .c => .retC

/-- The rows `RST n` (R312), by `y = n / 8` (R159). -/
def Instr.rowRst : Fin 8 → Instr
  | 0 => .rst00
  | 1 => .rst08
  | 2 => .rst10
  | 3 => .rst18
  | 4 => .rst20
  | 5 => .rst28
  | 6 => .rst30
  | 7 => .rst38

/-- The 64 rows of the rotate and shift group (R351-R366). -/
def Instr.rowRot : RotOp → Opnd8 → Instr
  | .rlc, .reg .b => .rlcB
  | .rlc, .reg .c => .rlcC
  | .rlc, .reg .d => .rlcD
  | .rlc, .reg .e => .rlcE
  | .rlc, .reg .h => .rlcH
  | .rlc, .reg .l => .rlcL
  | .rlc, .hlInd => .rlcIndHl
  | .rlc, .reg .a => .rlcA
  | .rrc, .reg .b => .rrcB
  | .rrc, .reg .c => .rrcC
  | .rrc, .reg .d => .rrcD
  | .rrc, .reg .e => .rrcE
  | .rrc, .reg .h => .rrcH
  | .rrc, .reg .l => .rrcL
  | .rrc, .hlInd => .rrcIndHl
  | .rrc, .reg .a => .rrcA
  | .rl, .reg .b => .rlB
  | .rl, .reg .c => .rlC
  | .rl, .reg .d => .rlD
  | .rl, .reg .e => .rlE
  | .rl, .reg .h => .rlH
  | .rl, .reg .l => .rlL
  | .rl, .hlInd => .rlIndHl
  | .rl, .reg .a => .rlA
  | .rr, .reg .b => .rrB
  | .rr, .reg .c => .rrC
  | .rr, .reg .d => .rrD
  | .rr, .reg .e => .rrE
  | .rr, .reg .h => .rrH
  | .rr, .reg .l => .rrL
  | .rr, .hlInd => .rrIndHl
  | .rr, .reg .a => .rrA
  | .sla, .reg .b => .slaB
  | .sla, .reg .c => .slaC
  | .sla, .reg .d => .slaD
  | .sla, .reg .e => .slaE
  | .sla, .reg .h => .slaH
  | .sla, .reg .l => .slaL
  | .sla, .hlInd => .slaIndHl
  | .sla, .reg .a => .slaA
  | .sra, .reg .b => .sraB
  | .sra, .reg .c => .sraC
  | .sra, .reg .d => .sraD
  | .sra, .reg .e => .sraE
  | .sra, .reg .h => .sraH
  | .sra, .reg .l => .sraL
  | .sra, .hlInd => .sraIndHl
  | .sra, .reg .a => .sraA
  | .swap, .reg .b => .swapB
  | .swap, .reg .c => .swapC
  | .swap, .reg .d => .swapD
  | .swap, .reg .e => .swapE
  | .swap, .reg .h => .swapH
  | .swap, .reg .l => .swapL
  | .swap, .hlInd => .swapIndHl
  | .swap, .reg .a => .swapA
  | .srl, .reg .b => .srlB
  | .srl, .reg .c => .srlC
  | .srl, .reg .d => .srlD
  | .srl, .reg .e => .srlE
  | .srl, .reg .h => .srlH
  | .srl, .reg .l => .srlL
  | .srl, .hlInd => .srlIndHl
  | .srl, .reg .a => .srlA

/-- The 64 rows `BIT b` (R367, R368): bit number, operand. -/
def Instr.rowBit : Fin 8 → Opnd8 → Instr
  | 0, .reg .b => .bit0B
  | 0, .reg .c => .bit0C
  | 0, .reg .d => .bit0D
  | 0, .reg .e => .bit0E
  | 0, .reg .h => .bit0H
  | 0, .reg .l => .bit0L
  | 0, .hlInd => .bit0IndHl
  | 0, .reg .a => .bit0A
  | 1, .reg .b => .bit1B
  | 1, .reg .c => .bit1C
  | 1, .reg .d => .bit1D
  | 1, .reg .e => .bit1E
  | 1, .reg .h => .bit1H
  | 1, .reg .l => .bit1L
  | 1, .hlInd => .bit1IndHl
  | 1, .reg .a => .bit1A
  | 2, .reg .b => .bit2B
  | 2, .reg .c => .bit2C
  | 2, .reg .d => .bit2D
  | 2, .reg .e => .bit2E
  | 2, .reg .h => .bit2H
  | 2, .reg .l => .bit2L
  | 2, .hlInd => .bit2IndHl
  | 2, .reg .a => .bit2A
  | 3, .reg .b => .bit3B
  | 3, .reg .c => .bit3C
  | 3, .reg .d => .bit3D
  | 3, .reg .e => .bit3E
  | 3, .reg .h => .bit3H
  | 3, .reg .l => .bit3L
  | 3, .hlInd => .bit3IndHl
  | 3, .reg .a => .bit3A
  | 4, .reg .b => .bit4B
  | 4, .reg .c => .bit4C
  | 4, .reg .d => .bit4D
  | 4, .reg .e => .bit4E
  | 4, .reg .h => .bit4H
  | 4, .reg .l => .bit4L
  | 4, .hlInd => .bit4IndHl
  | 4, .reg .a => .bit4A
  | 5, .reg .b => .bit5B
  | 5, .reg .c => .bit5C
  | 5, .reg .d => .bit5D
  | 5, .reg .e => .bit5E
  | 5, .reg .h => .bit5H
  | 5, .reg .l => .bit5L
  | 5, .hlInd => .bit5IndHl
  | 5, .reg .a => .bit5A
  | 6, .reg .b => .bit6B
  | 6, .reg .c => .bit6C
  | 6, .reg .d => .bit6D
  | 6, .reg .e => .bit6E
  | 6, .reg .h => .bit6H
  | 6, .reg .l => .bit6L
  | 6, .hlInd => .bit6IndHl
  | 6, .reg .a => .bit6A
  | 7, .reg .b => .bit7B
  | 7, .reg .c => .bit7C
  | 7, .reg .d => .bit7D
  | 7, .reg .e => .bit7E
  | 7, .reg .h => .bit7H
  | 7, .reg .l => .bit7L
  | 7, .hlInd => .bit7IndHl
  | 7, .reg .a => .bit7A

/-- The 64 rows `RES b` (R369, R370): bit number, operand. -/
def Instr.rowRes : Fin 8 → Opnd8 → Instr
  | 0, .reg .b => .res0B
  | 0, .reg .c => .res0C
  | 0, .reg .d => .res0D
  | 0, .reg .e => .res0E
  | 0, .reg .h => .res0H
  | 0, .reg .l => .res0L
  | 0, .hlInd => .res0IndHl
  | 0, .reg .a => .res0A
  | 1, .reg .b => .res1B
  | 1, .reg .c => .res1C
  | 1, .reg .d => .res1D
  | 1, .reg .e => .res1E
  | 1, .reg .h => .res1H
  | 1, .reg .l => .res1L
  | 1, .hlInd => .res1IndHl
  | 1, .reg .a => .res1A
  | 2, .reg .b => .res2B
  | 2, .reg .c => .res2C
  | 2, .reg .d => .res2D
  | 2, .reg .e => .res2E
  | 2, .reg .h => .res2H
  | 2, .reg .l => .res2L
  | 2, .hlInd => .res2IndHl
  | 2, .reg .a => .res2A
  | 3, .reg .b => .res3B
  | 3, .reg .c => .res3C
  | 3, .reg .d => .res3D
  | 3, .reg .e => .res3E
  | 3, .reg .h => .res3H
  | 3, .reg .l => .res3L
  | 3, .hlInd => .res3IndHl
  | 3, .reg .a => .res3A
  | 4, .reg .b => .res4B
  | 4, .reg .c => .res4C
  | 4, .reg .d => .res4D
  | 4, .reg .e => .res4E
  | 4, .reg .h => .res4H
  | 4, .reg .l => .res4L
  | 4, .hlInd => .res4IndHl
  | 4, .reg .a => .res4A
  | 5, .reg .b => .res5B
  | 5, .reg .c => .res5C
  | 5, .reg .d => .res5D
  | 5, .reg .e => .res5E
  | 5, .reg .h => .res5H
  | 5, .reg .l => .res5L
  | 5, .hlInd => .res5IndHl
  | 5, .reg .a => .res5A
  | 6, .reg .b => .res6B
  | 6, .reg .c => .res6C
  | 6, .reg .d => .res6D
  | 6, .reg .e => .res6E
  | 6, .reg .h => .res6H
  | 6, .reg .l => .res6L
  | 6, .hlInd => .res6IndHl
  | 6, .reg .a => .res6A
  | 7, .reg .b => .res7B
  | 7, .reg .c => .res7C
  | 7, .reg .d => .res7D
  | 7, .reg .e => .res7E
  | 7, .reg .h => .res7H
  | 7, .reg .l => .res7L
  | 7, .hlInd => .res7IndHl
  | 7, .reg .a => .res7A

/-- The 64 rows `SET b` (R371, R372): bit number, operand. -/
def Instr.rowSet : Fin 8 → Opnd8 → Instr
  | 0, .reg .b => .set0B
  | 0, .reg .c => .set0C
  | 0, .reg .d => .set0D
  | 0, .reg .e => .set0E
  | 0, .reg .h => .set0H
  | 0, .reg .l => .set0L
  | 0, .hlInd => .set0IndHl
  | 0, .reg .a => .set0A
  | 1, .reg .b => .set1B
  | 1, .reg .c => .set1C
  | 1, .reg .d => .set1D
  | 1, .reg .e => .set1E
  | 1, .reg .h => .set1H
  | 1, .reg .l => .set1L
  | 1, .hlInd => .set1IndHl
  | 1, .reg .a => .set1A
  | 2, .reg .b => .set2B
  | 2, .reg .c => .set2C
  | 2, .reg .d => .set2D
  | 2, .reg .e => .set2E
  | 2, .reg .h => .set2H
  | 2, .reg .l => .set2L
  | 2, .hlInd => .set2IndHl
  | 2, .reg .a => .set2A
  | 3, .reg .b => .set3B
  | 3, .reg .c => .set3C
  | 3, .reg .d => .set3D
  | 3, .reg .e => .set3E
  | 3, .reg .h => .set3H
  | 3, .reg .l => .set3L
  | 3, .hlInd => .set3IndHl
  | 3, .reg .a => .set3A
  | 4, .reg .b => .set4B
  | 4, .reg .c => .set4C
  | 4, .reg .d => .set4D
  | 4, .reg .e => .set4E
  | 4, .reg .h => .set4H
  | 4, .reg .l => .set4L
  | 4, .hlInd => .set4IndHl
  | 4, .reg .a => .set4A
  | 5, .reg .b => .set5B
  | 5, .reg .c => .set5C
  | 5, .reg .d => .set5D
  | 5, .reg .e => .set5E
  | 5, .reg .h => .set5H
  | 5, .reg .l => .set5L
  | 5, .hlInd => .set5IndHl
  | 5, .reg .a => .set5A
  | 6, .reg .b => .set6B
  | 6, .reg .c => .set6C
  | 6, .reg .d => .set6D
  | 6, .reg .e => .set6E
  | 6, .reg .h => .set6H
  | 6, .reg .l => .set6L
  | 6, .hlInd => .set6IndHl
  | 6, .reg .a => .set6A
  | 7, .reg .b => .set7B
  | 7, .reg .c => .set7C
  | 7, .reg .d => .set7D
  | 7, .reg .e => .set7E
  | 7, .reg .h => .set7H
  | 7, .reg .l => .set7L
  | 7, .hlInd => .set7IndHl
  | 7, .reg .a => .set7A

/-- The 11 undefined primary opcodes (R163), each with its row. -/
def Instr.undefinedRows : List (Byte × Instr) :=
  [(0xD3, .illegalD3),
   (0xDB, .illegalDB),
   (0xDD, .illegalDD),
   (0xE3, .illegalE3),
   (0xE4, .illegalE4),
   (0xEB, .illegalEB),
   (0xEC, .illegalEC),
   (0xED, .illegalED),
   (0xF4, .illegalF4),
   (0xFC, .illegalFC),
   (0xFD, .illegalFD)]

end Sys2Proof
end

