-- ==== Sys2Proof/WellFormed.lean ====
section
/-!
DEFINITION. Which rows are whole instructions. Every operand of every row admits every value of its type (30_encoding.md
R161, R166: no reserved operand value exists), so the one check is that the row is not the bare escape byte.
-/

namespace Sys2Proof

/-- A whole instruction as it stands in memory. `PREFIX CB` by itself is not one: opcode 0xCB "is always followed by exactly
one more byte" (R153), and the two bytes together are a row of the secondary table. -/
def Instr.wellFormed (i : Instr) : Bool := i != .prefixCb

end Sys2Proof
end

