-- ==== Sys2Proof/Decode.lean ====
section
/-!
DEFINITION. Decoding and encoding (30_encoding.md). The two maps R162 and R165 are written as the spec prints them: one
list per row of the map (high nibble), one entry per column.
-/

namespace Sys2Proof

/-- Why bytes decode to no instruction. -/
inductive DecodeError where
  /-- There is no byte. -/
  | noByte
  /-- Opcode `op` needs more operand bytes than follow it. -/
  | missingOperand (op : Byte)
deriving DecidableEq, Repr

/-- An entry of the primary map: the format of R154 and the instruction its operand makes. -/
inductive Row where
  /-- P1: no operand byte. -/
  | p1 (i : Instr)
  /-- P2: one operand byte. -/
  | p2 (mk : Byte → Instr)
  /-- P3: a little-endian word. -/
  | p3 (mk : Word → Instr)
  /-- 0xCB: the next byte selects a row of the secondary map (R160). -/
  | escape

/-! ### The primary map (R162) -/

/-- Row 0x. -/
def primaryRow0 : List Row :=
  [.p1 .nop, .p3 .ldBcD16, .p1 .ldIndBcA, .p1 .incBc, .p1 .incB, .p1 .decB, .p2 .ldBD8, .p1 .rlca,
   .p3 .ldIndA16Sp, .p1 .addHlBc, .p1 .ldAIndBc, .p1 .decBc, .p1 .incC, .p1 .decC, .p2 .ldCD8, .p1 .rrca]

/-- Row 1x. -/
def primaryRow1 : List Row :=
  [.p1 .stop, .p3 .ldDeD16, .p1 .ldIndDeA, .p1 .incDe, .p1 .incD, .p1 .decD, .p2 .ldDD8, .p1 .rla, .p2 .jrE8,
   .p1 .addHlDe, .p1 .ldAIndDe, .p1 .decDe, .p1 .incE, .p1 .decE, .p2 .ldED8, .p1 .rra]

/-- Row 2x. -/
def primaryRow2 : List Row :=
  [.p2 .jrNzE8, .p3 .ldHlD16, .p1 .ldIndHlIncA, .p1 .incHl, .p1 .incH, .p1 .decH, .p2 .ldHD8, .p1 .daa,
   .p2 .jrZE8, .p1 .addHlHl, .p1 .ldAIndHlInc, .p1 .decHl, .p1 .incL, .p1 .decL, .p2 .ldLD8, .p1 .cpl]

/-- Row 3x. -/
def primaryRow3 : List Row :=
  [.p2 .jrNcE8, .p3 .ldSpD16, .p1 .ldIndHlDecA, .p1 .incSp, .p1 .incIndHl, .p1 .decIndHl, .p2 .ldIndHlD8,
   .p1 .scf, .p2 .jrCE8, .p1 .addHlSp, .p1 .ldAIndHlDec, .p1 .decSp, .p1 .incA, .p1 .decA, .p2 .ldAD8,
   .p1 .ccf]

/-- Row 4x. -/
def primaryRow4 : List Row :=
  [.p1 .ldBB, .p1 .ldBC, .p1 .ldBD, .p1 .ldBE, .p1 .ldBH, .p1 .ldBL, .p1 .ldBIndHl, .p1 .ldBA, .p1 .ldCB,
   .p1 .ldCC, .p1 .ldCD, .p1 .ldCE, .p1 .ldCH, .p1 .ldCL, .p1 .ldCIndHl, .p1 .ldCA]

/-- Row 5x. -/
def primaryRow5 : List Row :=
  [.p1 .ldDB, .p1 .ldDC, .p1 .ldDD, .p1 .ldDE, .p1 .ldDH, .p1 .ldDL, .p1 .ldDIndHl, .p1 .ldDA, .p1 .ldEB,
   .p1 .ldEC, .p1 .ldED, .p1 .ldEE, .p1 .ldEH, .p1 .ldEL, .p1 .ldEIndHl, .p1 .ldEA]

/-- Row 6x. -/
def primaryRow6 : List Row :=
  [.p1 .ldHB, .p1 .ldHC, .p1 .ldHD, .p1 .ldHE, .p1 .ldHH, .p1 .ldHL, .p1 .ldHIndHl, .p1 .ldHA, .p1 .ldLB,
   .p1 .ldLC, .p1 .ldLD, .p1 .ldLE, .p1 .ldLH, .p1 .ldLL, .p1 .ldLIndHl, .p1 .ldLA]

/-- Row 7x. -/
def primaryRow7 : List Row :=
  [.p1 .ldIndHlB, .p1 .ldIndHlC, .p1 .ldIndHlD, .p1 .ldIndHlE, .p1 .ldIndHlH, .p1 .ldIndHlL, .p1 .halt,
   .p1 .ldIndHlA, .p1 .ldAB, .p1 .ldAC, .p1 .ldAD, .p1 .ldAE, .p1 .ldAH, .p1 .ldAL, .p1 .ldAIndHl, .p1 .ldAA]

/-- Row 8x. -/
def primaryRow8 : List Row :=
  [.p1 .addAB, .p1 .addAC, .p1 .addAD, .p1 .addAE, .p1 .addAH, .p1 .addAL, .p1 .addAIndHl, .p1 .addAA,
   .p1 .adcAB, .p1 .adcAC, .p1 .adcAD, .p1 .adcAE, .p1 .adcAH, .p1 .adcAL, .p1 .adcAIndHl, .p1 .adcAA]

/-- Row 9x. -/
def primaryRow9 : List Row :=
  [.p1 .subAB, .p1 .subAC, .p1 .subAD, .p1 .subAE, .p1 .subAH, .p1 .subAL, .p1 .subAIndHl, .p1 .subAA,
   .p1 .sbcAB, .p1 .sbcAC, .p1 .sbcAD, .p1 .sbcAE, .p1 .sbcAH, .p1 .sbcAL, .p1 .sbcAIndHl, .p1 .sbcAA]

/-- Row Ax. -/
def primaryRowA : List Row :=
  [.p1 .andAB, .p1 .andAC, .p1 .andAD, .p1 .andAE, .p1 .andAH, .p1 .andAL, .p1 .andAIndHl, .p1 .andAA,
   .p1 .xorAB, .p1 .xorAC, .p1 .xorAD, .p1 .xorAE, .p1 .xorAH, .p1 .xorAL, .p1 .xorAIndHl, .p1 .xorAA]

/-- Row Bx. -/
def primaryRowB : List Row :=
  [.p1 .orAB, .p1 .orAC, .p1 .orAD, .p1 .orAE, .p1 .orAH, .p1 .orAL, .p1 .orAIndHl, .p1 .orAA, .p1 .cpAB,
   .p1 .cpAC, .p1 .cpAD, .p1 .cpAE, .p1 .cpAH, .p1 .cpAL, .p1 .cpAIndHl, .p1 .cpAA]

/-- Row Cx. -/
def primaryRowC : List Row :=
  [.p1 .retNz, .p1 .popBc, .p3 .jpNzA16, .p3 .jpA16, .p3 .callNzA16, .p1 .pushBc, .p2 .addAD8, .p1 .rst00,
   .p1 .retZ, .p1 .ret, .p3 .jpZA16, .escape, .p3 .callZA16, .p3 .callA16, .p2 .adcAD8, .p1 .rst08]

/-- Row Dx. -/
def primaryRowD : List Row :=
  [.p1 .retNc, .p1 .popDe, .p3 .jpNcA16, .p1 .illegalD3, .p3 .callNcA16, .p1 .pushDe, .p2 .subAD8, .p1 .rst10,
   .p1 .retC, .p1 .reti, .p3 .jpCA16, .p1 .illegalDB, .p3 .callCA16, .p1 .illegalDD, .p2 .sbcAD8, .p1 .rst18]

/-- Row Ex. -/
def primaryRowE : List Row :=
  [.p2 .ldhIndA8A, .p1 .popHl, .p1 .ldhIndCA, .p1 .illegalE3, .p1 .illegalE4, .p1 .pushHl, .p2 .andAD8,
   .p1 .rst20, .p2 .addSpE8, .p1 .jpHl, .p3 .ldIndA16A, .p1 .illegalEB, .p1 .illegalEC, .p1 .illegalED,
   .p2 .xorAD8, .p1 .rst28]

/-- Row Fx. -/
def primaryRowF : List Row :=
  [.p2 .ldhAIndA8, .p1 .popAf, .p1 .ldhAIndC, .p1 .di, .p1 .illegalF4, .p1 .pushAf, .p2 .orAD8, .p1 .rst30,
   .p2 .ldHlSpE8, .p1 .ldSpHl, .p3 .ldAIndA16, .p1 .ei, .p1 .illegalFC, .p1 .illegalFD, .p2 .cpAD8, .p1 .rst38]

/-- The primary map: entry `op` is the row of opcode `op`. -/
def primaryMap : List Row :=
  primaryRow0 ++ primaryRow1 ++ primaryRow2 ++ primaryRow3 ++
  primaryRow4 ++ primaryRow5 ++ primaryRow6 ++ primaryRow7 ++
  primaryRow8 ++ primaryRow9 ++ primaryRowA ++ primaryRowB ++
  primaryRowC ++ primaryRowD ++ primaryRowE ++ primaryRowF

/-! ### The secondary map (R165) -/

/-- Row 0x. -/
def secondaryRow0 : List Instr :=
  [.rlcB, .rlcC, .rlcD, .rlcE, .rlcH, .rlcL, .rlcIndHl, .rlcA, .rrcB, .rrcC, .rrcD, .rrcE, .rrcH, .rrcL,
   .rrcIndHl, .rrcA]

/-- Row 1x. -/
def secondaryRow1 : List Instr :=
  [.rlB, .rlC, .rlD, .rlE, .rlH, .rlL, .rlIndHl, .rlA, .rrB, .rrC, .rrD, .rrE, .rrH, .rrL, .rrIndHl, .rrA]

/-- Row 2x. -/
def secondaryRow2 : List Instr :=
  [.slaB, .slaC, .slaD, .slaE, .slaH, .slaL, .slaIndHl, .slaA, .sraB, .sraC, .sraD, .sraE, .sraH, .sraL,
   .sraIndHl, .sraA]

/-- Row 3x. -/
def secondaryRow3 : List Instr :=
  [.swapB, .swapC, .swapD, .swapE, .swapH, .swapL, .swapIndHl, .swapA, .srlB, .srlC, .srlD, .srlE, .srlH,
   .srlL, .srlIndHl, .srlA]

/-- Row 4x. -/
def secondaryRow4 : List Instr :=
  [.bit0B, .bit0C, .bit0D, .bit0E, .bit0H, .bit0L, .bit0IndHl, .bit0A, .bit1B, .bit1C, .bit1D, .bit1E, .bit1H,
   .bit1L, .bit1IndHl, .bit1A]

/-- Row 5x. -/
def secondaryRow5 : List Instr :=
  [.bit2B, .bit2C, .bit2D, .bit2E, .bit2H, .bit2L, .bit2IndHl, .bit2A, .bit3B, .bit3C, .bit3D, .bit3E, .bit3H,
   .bit3L, .bit3IndHl, .bit3A]

/-- Row 6x. -/
def secondaryRow6 : List Instr :=
  [.bit4B, .bit4C, .bit4D, .bit4E, .bit4H, .bit4L, .bit4IndHl, .bit4A, .bit5B, .bit5C, .bit5D, .bit5E, .bit5H,
   .bit5L, .bit5IndHl, .bit5A]

/-- Row 7x. -/
def secondaryRow7 : List Instr :=
  [.bit6B, .bit6C, .bit6D, .bit6E, .bit6H, .bit6L, .bit6IndHl, .bit6A, .bit7B, .bit7C, .bit7D, .bit7E, .bit7H,
   .bit7L, .bit7IndHl, .bit7A]

/-- Row 8x. -/
def secondaryRow8 : List Instr :=
  [.res0B, .res0C, .res0D, .res0E, .res0H, .res0L, .res0IndHl, .res0A, .res1B, .res1C, .res1D, .res1E, .res1H,
   .res1L, .res1IndHl, .res1A]

/-- Row 9x. -/
def secondaryRow9 : List Instr :=
  [.res2B, .res2C, .res2D, .res2E, .res2H, .res2L, .res2IndHl, .res2A, .res3B, .res3C, .res3D, .res3E, .res3H,
   .res3L, .res3IndHl, .res3A]

/-- Row Ax. -/
def secondaryRowA : List Instr :=
  [.res4B, .res4C, .res4D, .res4E, .res4H, .res4L, .res4IndHl, .res4A, .res5B, .res5C, .res5D, .res5E, .res5H,
   .res5L, .res5IndHl, .res5A]

/-- Row Bx. -/
def secondaryRowB : List Instr :=
  [.res6B, .res6C, .res6D, .res6E, .res6H, .res6L, .res6IndHl, .res6A, .res7B, .res7C, .res7D, .res7E, .res7H,
   .res7L, .res7IndHl, .res7A]

/-- Row Cx. -/
def secondaryRowC : List Instr :=
  [.set0B, .set0C, .set0D, .set0E, .set0H, .set0L, .set0IndHl, .set0A, .set1B, .set1C, .set1D, .set1E, .set1H,
   .set1L, .set1IndHl, .set1A]

/-- Row Dx. -/
def secondaryRowD : List Instr :=
  [.set2B, .set2C, .set2D, .set2E, .set2H, .set2L, .set2IndHl, .set2A, .set3B, .set3C, .set3D, .set3E, .set3H,
   .set3L, .set3IndHl, .set3A]

/-- Row Ex. -/
def secondaryRowE : List Instr :=
  [.set4B, .set4C, .set4D, .set4E, .set4H, .set4L, .set4IndHl, .set4A, .set5B, .set5C, .set5D, .set5E, .set5H,
   .set5L, .set5IndHl, .set5A]

/-- Row Fx. -/
def secondaryRowF : List Instr :=
  [.set6B, .set6C, .set6D, .set6E, .set6H, .set6L, .set6IndHl, .set6A, .set7B, .set7C, .set7D, .set7E, .set7H,
   .set7L, .set7IndHl, .set7A]

/-- The secondary map: entry `b` is the row of `0xCB b`. -/
def secondaryMap : List Instr :=
  secondaryRow0 ++ secondaryRow1 ++ secondaryRow2 ++ secondaryRow3 ++
  secondaryRow4 ++ secondaryRow5 ++ secondaryRow6 ++ secondaryRow7 ++
  secondaryRow8 ++ secondaryRow9 ++ secondaryRowA ++ secondaryRowB ++
  secondaryRowC ++ secondaryRowD ++ secondaryRowE ++ secondaryRowF

/-- The row of opcode `op`. The map has 256 entries (`Laws.primaryMap_length`), so the default is never taken. -/
def primaryRow (op : Byte) : Row := primaryMap.getD op.toNat .escape

/-- The row of `0xCB b`. The map has 256 entries (`Laws.secondaryMap_length`), so the default is never taken. -/
def secondaryRow (b : Byte) : Instr := secondaryMap.getD b.toNat .prefixCb

/-- How many operand bytes the fetch reads after opcode `op` (R153, R154). STOP counts as none: its second byte is fetched by
its own meaning, in `nop2` mode only (44_system.md R332). -/
def operandCount (op : Byte) : Nat :=
  match primaryRow op with
  | .p1 _ => 0
  | .p2 _ => 1
  | .p3 _ => 2
  | .escape => 1

/-- Decode the instruction at the front of `bytes` (R160, R167): the instruction and the bytes after it. The escape byte with
nothing after it is the row `PREFIX CB`. -/
def decode (bytes : List Byte) : Except DecodeError (Instr × List Byte) :=
  match bytes with
  | [] => .error .noByte
  | op :: rest =>
    match primaryRow op with
    | .p1 i => .ok (i, rest)
    | .p2 mk =>
      match rest with
      | d :: rest => .ok (mk d, rest)
      | [] => .error (.missingOperand op)
    | .p3 mk =>
      match rest with
      | lo :: hi :: rest => .ok (mk (hi ++ lo), rest)
      | _ => .error (.missingOperand op)
    | .escape =>
      match rest with
      | b :: rest => .ok (secondaryRow b, rest)
      | [] => .ok (.prefixCb, [])

/-- The bytes of an instruction whose bits are `w`, numbered as spec/opcode_table.json numbers them, as they lie in memory
(log entry 7). The table numbers a primary row's opcode in bits 7-0 and a CB row as the two-byte value 0xCBxx, its FIRST byte in
bits 15-8; operand bytes have no bits in the table and are zero. The escape row by itself is the one byte 0xCB. -/
def tableBytes (nbits w : Nat) : List Byte :=
  let byte (k : Nat) : Byte := BitVec.ofNat 8 (w >>> (8 * k))
  if nbits ≤ 8 then (if byte 0 = 0xCB then [0xCB] else [byte 0, 0, 0])
  else if nbits ≤ 16 ∧ byte 1 = 0xCB then [0xCB, byte 0]
  else [byte 0, byte 1, byte 2]

/-- The instruction the decoder reads from the table word `w` of `nbits` bits. -/
def decodeTableWord (nbits w : Nat) : Option Instr :=
  match decode (tableBytes nbits w) with
  | .ok (i, _) => some i
  | .error _ => none

/-- The low and high byte of a word, in memory order (R103). -/
def littleEndian (w : Word) : List Byte := [w.extractLsb' 0 8, w.extractLsb' 8 8]

/-- The bytes of an instruction, from the opcode values of R162 and R165. STOP is its opcode alone. -/
def encode (i : Instr) : List Byte :=
  match i with
  | .nop => [0x00]
  | .ldBcD16 d => 0x01 :: littleEndian d
  | .ldIndBcA => [0x02]
  | .incBc => [0x03]
  | .incB => [0x04]
  | .decB => [0x05]
  | .ldBD8 d => [0x06, d]
  | .rlca => [0x07]
  | .ldIndA16Sp a => 0x08 :: littleEndian a
  | .addHlBc => [0x09]
  | .ldAIndBc => [0x0A]
  | .decBc => [0x0B]
  | .incC => [0x0C]
  | .decC => [0x0D]
  | .ldCD8 d => [0x0E, d]
  | .rrca => [0x0F]
  | .stop => [0x10]
  | .ldDeD16 d => 0x11 :: littleEndian d
  | .ldIndDeA => [0x12]
  | .incDe => [0x13]
  | .incD => [0x14]
  | .decD => [0x15]
  | .ldDD8 d => [0x16, d]
  | .rla => [0x17]
  | .jrE8 e => [0x18, e]
  | .addHlDe => [0x19]
  | .ldAIndDe => [0x1A]
  | .decDe => [0x1B]
  | .incE => [0x1C]
  | .decE => [0x1D]
  | .ldED8 d => [0x1E, d]
  | .rra => [0x1F]
  | .jrNzE8 e => [0x20, e]
  | .ldHlD16 d => 0x21 :: littleEndian d
  | .ldIndHlIncA => [0x22]
  | .incHl => [0x23]
  | .incH => [0x24]
  | .decH => [0x25]
  | .ldHD8 d => [0x26, d]
  | .daa => [0x27]
  | .jrZE8 e => [0x28, e]
  | .addHlHl => [0x29]
  | .ldAIndHlInc => [0x2A]
  | .decHl => [0x2B]
  | .incL => [0x2C]
  | .decL => [0x2D]
  | .ldLD8 d => [0x2E, d]
  | .cpl => [0x2F]
  | .jrNcE8 e => [0x30, e]
  | .ldSpD16 d => 0x31 :: littleEndian d
  | .ldIndHlDecA => [0x32]
  | .incSp => [0x33]
  | .incIndHl => [0x34]
  | .decIndHl => [0x35]
  | .ldIndHlD8 d => [0x36, d]
  | .scf => [0x37]
  | .jrCE8 e => [0x38, e]
  | .addHlSp => [0x39]
  | .ldAIndHlDec => [0x3A]
  | .decSp => [0x3B]
  | .incA => [0x3C]
  | .decA => [0x3D]
  | .ldAD8 d => [0x3E, d]
  | .ccf => [0x3F]
  | .ldBB => [0x40]
  | .ldBC => [0x41]
  | .ldBD => [0x42]
  | .ldBE => [0x43]
  | .ldBH => [0x44]
  | .ldBL => [0x45]
  | .ldBIndHl => [0x46]
  | .ldBA => [0x47]
  | .ldCB => [0x48]
  | .ldCC => [0x49]
  | .ldCD => [0x4A]
  | .ldCE => [0x4B]
  | .ldCH => [0x4C]
  | .ldCL => [0x4D]
  | .ldCIndHl => [0x4E]
  | .ldCA => [0x4F]
  | .ldDB => [0x50]
  | .ldDC => [0x51]
  | .ldDD => [0x52]
  | .ldDE => [0x53]
  | .ldDH => [0x54]
  | .ldDL => [0x55]
  | .ldDIndHl => [0x56]
  | .ldDA => [0x57]
  | .ldEB => [0x58]
  | .ldEC => [0x59]
  | .ldED => [0x5A]
  | .ldEE => [0x5B]
  | .ldEH => [0x5C]
  | .ldEL => [0x5D]
  | .ldEIndHl => [0x5E]
  | .ldEA => [0x5F]
  | .ldHB => [0x60]
  | .ldHC => [0x61]
  | .ldHD => [0x62]
  | .ldHE => [0x63]
  | .ldHH => [0x64]
  | .ldHL => [0x65]
  | .ldHIndHl => [0x66]
  | .ldHA => [0x67]
  | .ldLB => [0x68]
  | .ldLC => [0x69]
  | .ldLD => [0x6A]
  | .ldLE => [0x6B]
  | .ldLH => [0x6C]
  | .ldLL => [0x6D]
  | .ldLIndHl => [0x6E]
  | .ldLA => [0x6F]
  | .ldIndHlB => [0x70]
  | .ldIndHlC => [0x71]
  | .ldIndHlD => [0x72]
  | .ldIndHlE => [0x73]
  | .ldIndHlH => [0x74]
  | .ldIndHlL => [0x75]
  | .halt => [0x76]
  | .ldIndHlA => [0x77]
  | .ldAB => [0x78]
  | .ldAC => [0x79]
  | .ldAD => [0x7A]
  | .ldAE => [0x7B]
  | .ldAH => [0x7C]
  | .ldAL => [0x7D]
  | .ldAIndHl => [0x7E]
  | .ldAA => [0x7F]
  | .addAB => [0x80]
  | .addAC => [0x81]
  | .addAD => [0x82]
  | .addAE => [0x83]
  | .addAH => [0x84]
  | .addAL => [0x85]
  | .addAIndHl => [0x86]
  | .addAA => [0x87]
  | .adcAB => [0x88]
  | .adcAC => [0x89]
  | .adcAD => [0x8A]
  | .adcAE => [0x8B]
  | .adcAH => [0x8C]
  | .adcAL => [0x8D]
  | .adcAIndHl => [0x8E]
  | .adcAA => [0x8F]
  | .subAB => [0x90]
  | .subAC => [0x91]
  | .subAD => [0x92]
  | .subAE => [0x93]
  | .subAH => [0x94]
  | .subAL => [0x95]
  | .subAIndHl => [0x96]
  | .subAA => [0x97]
  | .sbcAB => [0x98]
  | .sbcAC => [0x99]
  | .sbcAD => [0x9A]
  | .sbcAE => [0x9B]
  | .sbcAH => [0x9C]
  | .sbcAL => [0x9D]
  | .sbcAIndHl => [0x9E]
  | .sbcAA => [0x9F]
  | .andAB => [0xA0]
  | .andAC => [0xA1]
  | .andAD => [0xA2]
  | .andAE => [0xA3]
  | .andAH => [0xA4]
  | .andAL => [0xA5]
  | .andAIndHl => [0xA6]
  | .andAA => [0xA7]
  | .xorAB => [0xA8]
  | .xorAC => [0xA9]
  | .xorAD => [0xAA]
  | .xorAE => [0xAB]
  | .xorAH => [0xAC]
  | .xorAL => [0xAD]
  | .xorAIndHl => [0xAE]
  | .xorAA => [0xAF]
  | .orAB => [0xB0]
  | .orAC => [0xB1]
  | .orAD => [0xB2]
  | .orAE => [0xB3]
  | .orAH => [0xB4]
  | .orAL => [0xB5]
  | .orAIndHl => [0xB6]
  | .orAA => [0xB7]
  | .cpAB => [0xB8]
  | .cpAC => [0xB9]
  | .cpAD => [0xBA]
  | .cpAE => [0xBB]
  | .cpAH => [0xBC]
  | .cpAL => [0xBD]
  | .cpAIndHl => [0xBE]
  | .cpAA => [0xBF]
  | .retNz => [0xC0]
  | .popBc => [0xC1]
  | .jpNzA16 a => 0xC2 :: littleEndian a
  | .jpA16 a => 0xC3 :: littleEndian a
  | .callNzA16 a => 0xC4 :: littleEndian a
  | .pushBc => [0xC5]
  | .addAD8 d => [0xC6, d]
  | .rst00 => [0xC7]
  | .retZ => [0xC8]
  | .ret => [0xC9]
  | .jpZA16 a => 0xCA :: littleEndian a
  | .prefixCb => [0xCB]
  | .callZA16 a => 0xCC :: littleEndian a
  | .callA16 a => 0xCD :: littleEndian a
  | .adcAD8 d => [0xCE, d]
  | .rst08 => [0xCF]
  | .retNc => [0xD0]
  | .popDe => [0xD1]
  | .jpNcA16 a => 0xD2 :: littleEndian a
  | .illegalD3 => [0xD3]
  | .callNcA16 a => 0xD4 :: littleEndian a
  | .pushDe => [0xD5]
  | .subAD8 d => [0xD6, d]
  | .rst10 => [0xD7]
  | .retC => [0xD8]
  | .reti => [0xD9]
  | .jpCA16 a => 0xDA :: littleEndian a
  | .illegalDB => [0xDB]
  | .callCA16 a => 0xDC :: littleEndian a
  | .illegalDD => [0xDD]
  | .sbcAD8 d => [0xDE, d]
  | .rst18 => [0xDF]
  | .ldhIndA8A n => [0xE0, n]
  | .popHl => [0xE1]
  | .ldhIndCA => [0xE2]
  | .illegalE3 => [0xE3]
  | .illegalE4 => [0xE4]
  | .pushHl => [0xE5]
  | .andAD8 d => [0xE6, d]
  | .rst20 => [0xE7]
  | .addSpE8 e => [0xE8, e]
  | .jpHl => [0xE9]
  | .ldIndA16A a => 0xEA :: littleEndian a
  | .illegalEB => [0xEB]
  | .illegalEC => [0xEC]
  | .illegalED => [0xED]
  | .xorAD8 d => [0xEE, d]
  | .rst28 => [0xEF]
  | .ldhAIndA8 n => [0xF0, n]
  | .popAf => [0xF1]
  | .ldhAIndC => [0xF2]
  | .di => [0xF3]
  | .illegalF4 => [0xF4]
  | .pushAf => [0xF5]
  | .orAD8 d => [0xF6, d]
  | .rst30 => [0xF7]
  | .ldHlSpE8 e => [0xF8, e]
  | .ldSpHl => [0xF9]
  | .ldAIndA16 a => 0xFA :: littleEndian a
  | .ei => [0xFB]
  | .illegalFC => [0xFC]
  | .illegalFD => [0xFD]
  | .cpAD8 d => [0xFE, d]
  | .rst38 => [0xFF]
  | .rlcB => [0xCB, 0x00]
  | .rlcC => [0xCB, 0x01]
  | .rlcD => [0xCB, 0x02]
  | .rlcE => [0xCB, 0x03]
  | .rlcH => [0xCB, 0x04]
  | .rlcL => [0xCB, 0x05]
  | .rlcIndHl => [0xCB, 0x06]
  | .rlcA => [0xCB, 0x07]
  | .rrcB => [0xCB, 0x08]
  | .rrcC => [0xCB, 0x09]
  | .rrcD => [0xCB, 0x0A]
  | .rrcE => [0xCB, 0x0B]
  | .rrcH => [0xCB, 0x0C]
  | .rrcL => [0xCB, 0x0D]
  | .rrcIndHl => [0xCB, 0x0E]
  | .rrcA => [0xCB, 0x0F]
  | .rlB => [0xCB, 0x10]
  | .rlC => [0xCB, 0x11]
  | .rlD => [0xCB, 0x12]
  | .rlE => [0xCB, 0x13]
  | .rlH => [0xCB, 0x14]
  | .rlL => [0xCB, 0x15]
  | .rlIndHl => [0xCB, 0x16]
  | .rlA => [0xCB, 0x17]
  | .rrB => [0xCB, 0x18]
  | .rrC => [0xCB, 0x19]
  | .rrD => [0xCB, 0x1A]
  | .rrE => [0xCB, 0x1B]
  | .rrH => [0xCB, 0x1C]
  | .rrL => [0xCB, 0x1D]
  | .rrIndHl => [0xCB, 0x1E]
  | .rrA => [0xCB, 0x1F]
  | .slaB => [0xCB, 0x20]
  | .slaC => [0xCB, 0x21]
  | .slaD => [0xCB, 0x22]
  | .slaE => [0xCB, 0x23]
  | .slaH => [0xCB, 0x24]
  | .slaL => [0xCB, 0x25]
  | .slaIndHl => [0xCB, 0x26]
  | .slaA => [0xCB, 0x27]
  | .sraB => [0xCB, 0x28]
  | .sraC => [0xCB, 0x29]
  | .sraD => [0xCB, 0x2A]
  | .sraE => [0xCB, 0x2B]
  | .sraH => [0xCB, 0x2C]
  | .sraL => [0xCB, 0x2D]
  | .sraIndHl => [0xCB, 0x2E]
  | .sraA => [0xCB, 0x2F]
  | .swapB => [0xCB, 0x30]
  | .swapC => [0xCB, 0x31]
  | .swapD => [0xCB, 0x32]
  | .swapE => [0xCB, 0x33]
  | .swapH => [0xCB, 0x34]
  | .swapL => [0xCB, 0x35]
  | .swapIndHl => [0xCB, 0x36]
  | .swapA => [0xCB, 0x37]
  | .srlB => [0xCB, 0x38]
  | .srlC => [0xCB, 0x39]
  | .srlD => [0xCB, 0x3A]
  | .srlE => [0xCB, 0x3B]
  | .srlH => [0xCB, 0x3C]
  | .srlL => [0xCB, 0x3D]
  | .srlIndHl => [0xCB, 0x3E]
  | .srlA => [0xCB, 0x3F]
  | .bit0B => [0xCB, 0x40]
  | .bit0C => [0xCB, 0x41]
  | .bit0D => [0xCB, 0x42]
  | .bit0E => [0xCB, 0x43]
  | .bit0H => [0xCB, 0x44]
  | .bit0L => [0xCB, 0x45]
  | .bit0IndHl => [0xCB, 0x46]
  | .bit0A => [0xCB, 0x47]
  | .bit1B => [0xCB, 0x48]
  | .bit1C => [0xCB, 0x49]
  | .bit1D => [0xCB, 0x4A]
  | .bit1E => [0xCB, 0x4B]
  | .bit1H => [0xCB, 0x4C]
  | .bit1L => [0xCB, 0x4D]
  | .bit1IndHl => [0xCB, 0x4E]
  | .bit1A => [0xCB, 0x4F]
  | .bit2B => [0xCB, 0x50]
  | .bit2C => [0xCB, 0x51]
  | .bit2D => [0xCB, 0x52]
  | .bit2E => [0xCB, 0x53]
  | .bit2H => [0xCB, 0x54]
  | .bit2L => [0xCB, 0x55]
  | .bit2IndHl => [0xCB, 0x56]
  | .bit2A => [0xCB, 0x57]
  | .bit3B => [0xCB, 0x58]
  | .bit3C => [0xCB, 0x59]
  | .bit3D => [0xCB, 0x5A]
  | .bit3E => [0xCB, 0x5B]
  | .bit3H => [0xCB, 0x5C]
  | .bit3L => [0xCB, 0x5D]
  | .bit3IndHl => [0xCB, 0x5E]
  | .bit3A => [0xCB, 0x5F]
  | .bit4B => [0xCB, 0x60]
  | .bit4C => [0xCB, 0x61]
  | .bit4D => [0xCB, 0x62]
  | .bit4E => [0xCB, 0x63]
  | .bit4H => [0xCB, 0x64]
  | .bit4L => [0xCB, 0x65]
  | .bit4IndHl => [0xCB, 0x66]
  | .bit4A => [0xCB, 0x67]
  | .bit5B => [0xCB, 0x68]
  | .bit5C => [0xCB, 0x69]
  | .bit5D => [0xCB, 0x6A]
  | .bit5E => [0xCB, 0x6B]
  | .bit5H => [0xCB, 0x6C]
  | .bit5L => [0xCB, 0x6D]
  | .bit5IndHl => [0xCB, 0x6E]
  | .bit5A => [0xCB, 0x6F]
  | .bit6B => [0xCB, 0x70]
  | .bit6C => [0xCB, 0x71]
  | .bit6D => [0xCB, 0x72]
  | .bit6E => [0xCB, 0x73]
  | .bit6H => [0xCB, 0x74]
  | .bit6L => [0xCB, 0x75]
  | .bit6IndHl => [0xCB, 0x76]
  | .bit6A => [0xCB, 0x77]
  | .bit7B => [0xCB, 0x78]
  | .bit7C => [0xCB, 0x79]
  | .bit7D => [0xCB, 0x7A]
  | .bit7E => [0xCB, 0x7B]
  | .bit7H => [0xCB, 0x7C]
  | .bit7L => [0xCB, 0x7D]
  | .bit7IndHl => [0xCB, 0x7E]
  | .bit7A => [0xCB, 0x7F]
  | .res0B => [0xCB, 0x80]
  | .res0C => [0xCB, 0x81]
  | .res0D => [0xCB, 0x82]
  | .res0E => [0xCB, 0x83]
  | .res0H => [0xCB, 0x84]
  | .res0L => [0xCB, 0x85]
  | .res0IndHl => [0xCB, 0x86]
  | .res0A => [0xCB, 0x87]
  | .res1B => [0xCB, 0x88]
  | .res1C => [0xCB, 0x89]
  | .res1D => [0xCB, 0x8A]
  | .res1E => [0xCB, 0x8B]
  | .res1H => [0xCB, 0x8C]
  | .res1L => [0xCB, 0x8D]
  | .res1IndHl => [0xCB, 0x8E]
  | .res1A => [0xCB, 0x8F]
  | .res2B => [0xCB, 0x90]
  | .res2C => [0xCB, 0x91]
  | .res2D => [0xCB, 0x92]
  | .res2E => [0xCB, 0x93]
  | .res2H => [0xCB, 0x94]
  | .res2L => [0xCB, 0x95]
  | .res2IndHl => [0xCB, 0x96]
  | .res2A => [0xCB, 0x97]
  | .res3B => [0xCB, 0x98]
  | .res3C => [0xCB, 0x99]
  | .res3D => [0xCB, 0x9A]
  | .res3E => [0xCB, 0x9B]
  | .res3H => [0xCB, 0x9C]
  | .res3L => [0xCB, 0x9D]
  | .res3IndHl => [0xCB, 0x9E]
  | .res3A => [0xCB, 0x9F]
  | .res4B => [0xCB, 0xA0]
  | .res4C => [0xCB, 0xA1]
  | .res4D => [0xCB, 0xA2]
  | .res4E => [0xCB, 0xA3]
  | .res4H => [0xCB, 0xA4]
  | .res4L => [0xCB, 0xA5]
  | .res4IndHl => [0xCB, 0xA6]
  | .res4A => [0xCB, 0xA7]
  | .res5B => [0xCB, 0xA8]
  | .res5C => [0xCB, 0xA9]
  | .res5D => [0xCB, 0xAA]
  | .res5E => [0xCB, 0xAB]
  | .res5H => [0xCB, 0xAC]
  | .res5L => [0xCB, 0xAD]
  | .res5IndHl => [0xCB, 0xAE]
  | .res5A => [0xCB, 0xAF]
  | .res6B => [0xCB, 0xB0]
  | .res6C => [0xCB, 0xB1]
  | .res6D => [0xCB, 0xB2]
  | .res6E => [0xCB, 0xB3]
  | .res6H => [0xCB, 0xB4]
  | .res6L => [0xCB, 0xB5]
  | .res6IndHl => [0xCB, 0xB6]
  | .res6A => [0xCB, 0xB7]
  | .res7B => [0xCB, 0xB8]
  | .res7C => [0xCB, 0xB9]
  | .res7D => [0xCB, 0xBA]
  | .res7E => [0xCB, 0xBB]
  | .res7H => [0xCB, 0xBC]
  | .res7L => [0xCB, 0xBD]
  | .res7IndHl => [0xCB, 0xBE]
  | .res7A => [0xCB, 0xBF]
  | .set0B => [0xCB, 0xC0]
  | .set0C => [0xCB, 0xC1]
  | .set0D => [0xCB, 0xC2]
  | .set0E => [0xCB, 0xC3]
  | .set0H => [0xCB, 0xC4]
  | .set0L => [0xCB, 0xC5]
  | .set0IndHl => [0xCB, 0xC6]
  | .set0A => [0xCB, 0xC7]
  | .set1B => [0xCB, 0xC8]
  | .set1C => [0xCB, 0xC9]
  | .set1D => [0xCB, 0xCA]
  | .set1E => [0xCB, 0xCB]
  | .set1H => [0xCB, 0xCC]
  | .set1L => [0xCB, 0xCD]
  | .set1IndHl => [0xCB, 0xCE]
  | .set1A => [0xCB, 0xCF]
  | .set2B => [0xCB, 0xD0]
  | .set2C => [0xCB, 0xD1]
  | .set2D => [0xCB, 0xD2]
  | .set2E => [0xCB, 0xD3]
  | .set2H => [0xCB, 0xD4]
  | .set2L => [0xCB, 0xD5]
  | .set2IndHl => [0xCB, 0xD6]
  | .set2A => [0xCB, 0xD7]
  | .set3B => [0xCB, 0xD8]
  | .set3C => [0xCB, 0xD9]
  | .set3D => [0xCB, 0xDA]
  | .set3E => [0xCB, 0xDB]
  | .set3H => [0xCB, 0xDC]
  | .set3L => [0xCB, 0xDD]
  | .set3IndHl => [0xCB, 0xDE]
  | .set3A => [0xCB, 0xDF]
  | .set4B => [0xCB, 0xE0]
  | .set4C => [0xCB, 0xE1]
  | .set4D => [0xCB, 0xE2]
  | .set4E => [0xCB, 0xE3]
  | .set4H => [0xCB, 0xE4]
  | .set4L => [0xCB, 0xE5]
  | .set4IndHl => [0xCB, 0xE6]
  | .set4A => [0xCB, 0xE7]
  | .set5B => [0xCB, 0xE8]
  | .set5C => [0xCB, 0xE9]
  | .set5D => [0xCB, 0xEA]
  | .set5E => [0xCB, 0xEB]
  | .set5H => [0xCB, 0xEC]
  | .set5L => [0xCB, 0xED]
  | .set5IndHl => [0xCB, 0xEE]
  | .set5A => [0xCB, 0xEF]
  | .set6B => [0xCB, 0xF0]
  | .set6C => [0xCB, 0xF1]
  | .set6D => [0xCB, 0xF2]
  | .set6E => [0xCB, 0xF3]
  | .set6H => [0xCB, 0xF4]
  | .set6L => [0xCB, 0xF5]
  | .set6IndHl => [0xCB, 0xF6]
  | .set6A => [0xCB, 0xF7]
  | .set7B => [0xCB, 0xF8]
  | .set7C => [0xCB, 0xF9]
  | .set7D => [0xCB, 0xFA]
  | .set7E => [0xCB, 0xFB]
  | .set7H => [0xCB, 0xFC]
  | .set7L => [0xCB, 0xFD]
  | .set7IndHl => [0xCB, 0xFE]
  | .set7A => [0xCB, 0xFF]

end Sys2Proof
end

