-- ==== Sys2Proof/Machine/Flags.lean ====
section
/-!
DEFINITION. Every result and flag computation of 41_alu8.md, 42_alu16.md and 45_cb.md as a function of operand values, over the
integers where the rules are (R240, R280), and the packing of the flag register (10_state.md R23, R24).
-/

namespace Sys2Proof.Machine

/-- F from its four flags: Z is bit 7, N bit 6, H bit 5, C bit 4 (R24), and bits 3-0 are 0 (R23). -/
def packFlags (z n h c : Bool) : Byte :=
  BitVec.ofBool z ++ BitVec.ofBool n ++ BitVec.ofBool h ++ BitVec.ofBool c ++ 0#4

/-- A result and the four flags it gives. -/
structure AluOut where
  val : Byte
  z : Bool
  n : Bool
  h : Bool
  c : Bool
deriving DecidableEq, Repr

/-- The low nibble as a number. -/
def lowNibble (v : Byte) : Nat := (v &&& 0x0F).toNat

/-- `add8(a, b, cin)` of R240. -/
def add8 (a b : Byte) (cin : Bool) : AluOut :=
  let sum := a.toNat + b.toNat + cin.toNat
  let r := BitVec.ofNat 8 sum
  { val := r, z := r == 0, n := false
    h := decide (lowNibble a + lowNibble b + cin.toNat > 0x0F)
    c := decide (sum > 0xFF) }

/-- `sub8(a, b, cin)` of R240. -/
def sub8 (a b : Byte) (cin : Bool) : AluOut :=
  let r := a - b - BitVec.ofNat 8 cin.toNat
  { val := r, z := r == 0, n := true
    h := decide (lowNibble a < lowNibble b + cin.toNat)
    c := decide (a.toNat < b.toNat + cin.toNat) }

/-- A logic result `r` (R253-R261): Z from the result, N and C clear, H as given (1 for AND only). -/
def logic8 (r : Byte) (h : Bool) : AluOut := { val := r, z := r == 0, n := false, h := h, c := false }

/-- The ALU group (R159, R241-R264) on A = `a`, operand `v` and the carry flag `cin`. CP computes as SUB; it is
`aluWrites` that keeps A. -/
def alu8 (op : AluOp) (a v : Byte) (cin : Bool) : AluOut :=
  match op with
  | .add => add8 a v false
  | .adc => add8 a v cin
  | .sub => sub8 a v false
  | .sbc => sub8 a v cin
  | .and => logic8 (a &&& v) true
  | .xor => logic8 (a ^^^ v) false
  | .or => logic8 (a ||| v) false
  | .cp => sub8 a v false

/-- Whether the operation writes A: every one but CP (R262). -/
def aluWrites (op : AluOp) : Bool := op != .cp

/-- INC (R265): C is the flag it was. -/
def inc8 (v : Byte) (c : Bool) : AluOut :=
  { val := v + 1, z := v + 1 == 0, n := false, h := lowNibble v == 0x0F, c := c }

/-- DEC (R267): C is the flag it was. -/
def dec8 (v : Byte) (c : Bool) : AluOut :=
  { val := v - 1, z := v - 1 == 0, n := true, h := lowNibble v == 0x00, c := c }

/-- DAA (R269) on A = `a` and the flags N, H, C: N is kept, H cleared. -/
def daa8 (a : Byte) (n h c : Bool) : AluOut :=
  if n then
    let a := if c then a - 0x60 else a
    let a := if h then a - 0x06 else a
    { val := a, z := a == 0, n := n, h := false, c := c }
  else
    let high := c || decide (a > 0x99)
    let a := if high then a + 0x60 else a
    let a := if h || decide (a &&& 0x0F > 0x09) then a + 0x06 else a
    { val := a, z := a == 0, n := n, h := false, c := high }

/-- The rotate and shift group (R351-R365) on operand `v` and the carry flag `cin`. -/
def rot8 (op : RotOp) (v : Byte) (cin : Bool) : AluOut :=
  let out (w : Byte) (c : Bool) : AluOut := { val := w, z := w == 0, n := false, h := false, c := c }
  let carry : Byte := BitVec.ofNat 8 cin.toNat
  match op with
  | .rlc => out (v <<< 1 ||| v >>> 7) (v.getLsbD 7)
  | .rrc => out (v >>> 1 ||| v <<< 7) (v.getLsbD 0)
  | .rl => out (v <<< 1 ||| carry) (v.getLsbD 7)
  | .rr => out (v >>> 1 ||| carry <<< 7) (v.getLsbD 0)
  | .sla => out (v <<< 1) (v.getLsbD 7)
  | .sra => out (v >>> 1 ||| (v &&& 0x80)) (v.getLsbD 0)
  | .swap => out (v <<< 4 ||| v >>> 4) false
  | .srl => out (v >>> 1) (v.getLsbD 0)

/-- The mask of bit `b` in a byte. -/
def bitMask (b : Fin 8) : Byte := 1#8 <<< b.val

/-- `sext_16` (R9): bit 7 copied into bits 15-8. -/
def sext16 (e : Byte) : Word := e.signExtend 16

/-- `zext_16` (R9). -/
def zext16 (v : Byte) : Word := v.setWidth 16

/-- A 16-bit result with its half-carry and carry. -/
structure SumOut where
  val : Word
  h : Bool
  c : Bool
deriving DecidableEq, Repr

/-- `sp_plus_e8(sp, e)` of R280: H and C from the unsigned low-byte addition, whatever the sign of `e`. -/
def spPlusE8 (sp : Word) (e : Byte) : SumOut :=
  { val := sp + sext16 e
    h := decide ((sp &&& 0x000F).toNat + (e &&& 0x0F).toNat > 0x0F)
    c := decide ((sp &&& 0x00FF).toNat + e.toNat > 0xFF) }

/-- The sum of ADD HL,rr (R283): H from bit 11, C from bit 15. -/
def addWords (a b : Word) : SumOut :=
  { val := a + b
    h := decide ((a &&& 0x0FFF).toNat + (b &&& 0x0FFF).toNat > 0x0FFF)
    c := decide (a.toNat + b.toNat > 0xFFFF) }

end Sys2Proof.Machine
end

