-- ==== Sys2Proof/Config.lean ====
section
/-!
DEFINITION. The model parameters of 00_scope.md R8 as plain data, and the two external collaborators
(cartridge mapper, audio unit) of R5 as uninterpreted functions.
The parameters stand in State (log entry 3): they are fixed for a machine and no step changes them, so a
statement over every state is a statement over every value of the parameters.
-/

namespace Sys2Proof

/-- `STOP_MODE` (R8, 44_system.md R332): what opcode 0x10 means. -/
inductive StopMode where
  /-- Raise `Fault(Unmodelled(0x10, op_pc))`: the default. -/
  | fault
  /-- Fetch one more byte and discard it. -/
  | nop2
deriving DecidableEq, Repr

/-- `Mapper` (R8, 20_memory.md R111): who answers 0000-7FFF and A000-BFFF. -/
inductive MapperKind where
  /-- The default: a 32 KiB image at 0000-7FFF, writes ignored, A000-BFFF reads 0xFF. -/
  | romOnly
  /-- Any other mapper: its read is the free function `Config.mapperRead` of its state, which is the list of
  the writes it has received (log entry 5). -/
  | external
deriving DecidableEq, Repr

/-- `APU` (R8, D33): who answers FF10-FF3F. -/
inductive ApuKind where
  /-- The default: reads 0xFF, writes ignored. -/
  | silent
  /-- Any other audio unit, by the free function `Config.apuRead` (log entry 5). -/
  | external
deriving DecidableEq, Repr

/-- The parameters of R8 other than `INIT_MEM`, with the spec's defaults. -/
structure Params where
  /-- `CLOCKS_PER_CYCLE`: timer clocks and display dots in one machine cycle. -/
  clocksPerCycle : Nat := 4
  /-- `STOP_MODE`. -/
  stopMode : StopMode := .fault
  /-- `OAM_LOCK_MODE2`: whether OAM is also locked in display mode 2. -/
  oamLockMode2 : Bool := false
  /-- `Mapper`. -/
  mapper : MapperKind := .romOnly
  /-- `APU`. -/
  apu : ApuKind := .silent
deriving DecidableEq, Repr

/-- `Mapper.read : state -> u16 -> u8` of R111 for an external mapper, its state being the writes it has received,
newest first: a free value (log entry 5). -/
opaque Config.mapperRead : List (Nat × Byte) → Word → Byte

/-- `APU.read` for an external audio unit, in the same form: a free value (log entry 5). -/
opaque Config.apuRead : List (Nat × Byte) → Word → Byte

end Sys2Proof
end

