-- ==== Sys2Proof/Machine/State.lean ====
section
/-!
DEFINITION. The state of the CORE block (10_state.md) as plain data, the reasons a step stops with, and the
state after `Reset` (70_reset_and_hazards.md R500).
-/

namespace Sys2Proof.Machine

/-- Memory: the bytes that differ from what an unlisted address reads as, by rising address
(`Memory.wf` in Machine/Memory.lean). Keys are the addresses of R110 with the mirror E000-FDFF taken back to
C000-DDFF; 0000-7FFF holds the image of a ROM-only cartridge. -/
abbrev Memory := List Host.Cell

/-- `ime_state` (R33): the enable-latency machine. -/
inductive ImeState where
  | stable
  | enableRequested
  | enableNow
deriving DecidableEq, Repr

/-- `halt` (R34). -/
inductive Halt where
  /-- Running. -/
  | off
  /-- Fetch is suspended, cycles still tick. -/
  | on
  /-- The next opcode byte is fetched without advancing PC. -/
  | bug
deriving DecidableEq, Repr

/-- The display `mode` (R45), by name; its number is `Mode.number`. -/
inductive Mode where
  /-- Mode 0. -/
  | hblank
  /-- Mode 1. -/
  | vblank
  /-- Mode 2. -/
  | oamSearch
  /-- Mode 3. -/
  | transfer
deriving DecidableEq, Repr

/-- The sticky stop reasons of R35 and R403. `step` answers one of these exactly when the state's `fault` field
already records it: "While `fault != None` the machine has no step". -/
inductive Fault where
  /-- Recorded by executing one of the 11 undefined opcodes (44_system.md R335), with the opcode and the address it was
  read from; raised by every later step. Safe: the machine stops, as the spec says it does. -/
  | illegalOpcode (op : Byte) (addr : Word)
  /-- Recorded by executing STOP with `STOP_MODE = fault` (R332); raised by every later step. Safe: the machine
  stops, as the spec says it does. -/
  | unmodelled (op : Byte) (addr : Word)
deriving DecidableEq, Repr

/-- Reasons to give no meaning. -/
inductive Refusal where
  /-- An instruction without a meaning, rejected by name in exec's arm. Safe. No arm of this model answers it. -/
  | notModelled (mnemonic : String)
  /-- The fetched bytes decode to no instruction: raised by `step` if `decode` answers an error on the bytes that
  `fetchBytes` fetched. Safe. It never happens (`Laws.decode_fetchBytes`): decode is total (R167). -/
  | undecodable
deriving DecidableEq, Repr

/-- The register file (R20). The pairs AF, BC, DE, HL are views of these bytes (R21, Machine/Ops.lean). -/
structure Regs where
  a : Byte
  f : Byte
  b : Byte
  c : Byte
  d : Byte
  e : Byte
  h : Byte
  l : Byte
  sp : Word
  pc : Word
deriving DecidableEq, Repr

/-- The timer (R40-R42). -/
structure Timer where
  counter : Word
  edge : Bool
  tima : Byte
  tma : Byte
  tac : BitVec 3
deriving DecidableEq, Repr

/-- The display controller's timing state and stored registers (R45, R70-R77). -/
structure Display where
  lcdc : Byte
  /-- STAT[6:3]: bit 0 here is STAT[3]. -/
  statEnable : BitVec 4
  /-- STAT[2]. -/
  coincidence : Bool
  mode : Mode
  dots : Int
  ly : Byte
  lyc : Byte
  scy : Byte
  scx : Byte
  bgp : Byte
  obp0 : Byte
  obp1 : Byte
  wy : Byte
  wx : Byte
deriving DecidableEq, Repr

/-- A call to the external renderer (60_exceptions.md R462). -/
inductive RenderCall where
  | scanline (ly : Byte)
  | swap
deriving DecidableEq, Repr

/-- What `Tick` advances: the timer, the display, the interrupt requests they raise, and the renderer calls made so far,
newest first (an output: nothing reads it, log entry 6). -/
structure Devices where
  timer : Timer
  display : Display
  /-- IF[4:0] (R30). -/
  ifr : BitVec 5
  renderer : List RenderCall
deriving DecidableEq, Repr

/-- Input (R48): `sel` is P1[5:4] (bit 0 here is P1[4]); a mask bit is 1 while the key is pressed. -/
structure Joypad where
  sel : BitVec 2
  dirMask : BitVec 4
  btnMask : BitVec 4
deriving DecidableEq, Repr

/-- Serial (R49): storage only. -/
structure Serial where
  sb : Byte
  sc7 : Bool
  sc0 : Bool
deriving DecidableEq, Repr

/-- The whole state of the block, every piece of 10_state.md, the parameters of R8, and the model's own fields
`opPc`, `mapperLog`, `apuLog` (log entries 4, 5). -/
structure State where
  regs : Regs
  /-- IME (R32). -/
  ime : Bool
  imeState : ImeState
  halt : Halt
  fault : Option Fault
  /-- IE (R31), all 8 bits. -/
  ie : Byte
  dev : Devices
  joypad : Joypad
  serial : Serial
  /-- The last byte written to FF46 (R49). -/
  dma : Byte
  mem : Memory
  /-- The writes an external Mapper has received, newest first (log entry 5). -/
  mapperLog : List Host.Cell
  /-- The writes an external APU has received, newest first (log entry 5). -/
  apuLog : List Host.Cell
  stepCycles : Nat
  budget : Int
  /-- `op_pc` of R150: where the current step's opcode was read (log entry 4). -/
  opPc : Word
  params : Params
deriving DecidableEq, Repr

/-- `Reset()` of R500 for a machine with parameters `p` whose memories hold `image`: the cartridge's ROM image at
0000-7FFF and the draw `INIT_MEM` in VRAM, OAM, WRAM and HRAM (R502: a claim holds for every draw). -/
def State.resetWith (p : Params) (image : Memory) : State where
  regs := ⟨0x01, 0xB0, 0x00, 0x13, 0x00, 0xD8, 0x01, 0x4D, 0xFFFE, 0x0100⟩
  ime := false
  imeState := .stable
  halt := .off
  fault := none
  ie := 0x00
  dev :=
    { timer := ⟨0xABCC, false, 0x00, 0x00, 0#3⟩
      display :=
        { lcdc := 0x91, statEnable := 0#4, coincidence := true, mode := .oamSearch, dots := 80
          ly := 0x00, lyc := 0x00, scy := 0x00, scx := 0x00
          bgp := 0xFC, obp0 := 0xFF, obp1 := 0xFF, wy := 0x00, wx := 0x00 }
      ifr := 0b00001#5
      renderer := [] }
  joypad := ⟨0#2, 0#4, 0#4⟩
  serial := ⟨0x00, false, false⟩
  dma := 0xFF
  mem := image
  mapperLog := []
  apuLog := []
  stepCycles := 0
  budget := 0
  opPc := 0x0100
  params := p

/-- The machine right after reset with the spec's default parameters and nothing listed in memory (log entry 2). -/
def State.reset : State := State.resetWith {} []

end Sys2Proof.Machine
end

