-- ==== Sys2Proof/Machine/Devices.lean ====
section
/-!
DEFINITION. What one `Tick` does to the timer and the display (60_exceptions.md §5, §6), and their register
writes with side effects. Each function follows the pseudocode of the rule it cites.
-/

namespace Sys2Proof.Machine

/-- `RequestInterrupt(k)` (R421): set bit `k` of IF. -/
def Devices.request (k : Nat) (d : Devices) : Devices := { d with ifr := d.ifr ||| (1#5 <<< k) }

/-! ### Timer -/

/-- `sel` of R64: the counter bit that TAC[1:0] selects. -/
def clockSelect (cs : BitVec 2) : Nat :=
  match cs.toNat with
  | 0 => 9
  | 1 => 3
  | 2 => 5
  | _ => 7

/-- `TAC[2] & counter[sel(TAC[1:0])]` (R41, R441). -/
def Timer.signal (t : Timer) : Bool :=
  t.tac.getLsbD 2 && t.counter.getLsbD (clockSelect (t.tac.extractLsb' 0 2))

/-- `IncTIMA()` (R442): on overflow from 0xFF reload from TMA and request interrupt 2, in the same cycle. -/
def Devices.incTima (d : Devices) : Devices :=
  if d.timer.tima = 0xFF then
    Devices.request 2 { d with timer := { d.timer with tima := d.timer.tma } }
  else { d with timer := { d.timer with tima := d.timer.tima + 1 } }

/-- `TimerEdge(count)` (R441): recompute the edge detector, counting a falling edge when `count`. -/
def Devices.timerEdge (count : Bool) (d : Devices) : Devices :=
  let new := d.timer.signal
  let d := if count && d.timer.edge && !new then d.incTima else d
  { d with timer := { d.timer with edge := new } }

/-- `TimerTick()` (R440): advance the counter by `clocks`, wrapping, and count a falling edge. -/
def Devices.timerTick (clocks : Nat) (d : Devices) : Devices :=
  Devices.timerEdge true
    { d with timer := { d.timer with counter := d.timer.counter + BitVec.ofNat 16 clocks } }

/-- DIV write (R443): clear the counter and run the edge check with counting. -/
def Devices.writeDiv (d : Devices) : Devices :=
  Devices.timerEdge true { d with timer := { d.timer with counter := 0 } }

/-- TAC write (R444): store bits 2-0 and adopt the new edge value without counting. -/
def Devices.writeTac (v : Byte) (d : Devices) : Devices :=
  Devices.timerEdge false { d with timer := { d.timer with tac := v.extractLsb' 0 3 } }

/-! ### Display -/

/-- The mode number of R45. -/
def Mode.number : Mode → BitVec 2
  | .hblank => 0
  | .vblank => 1
  | .oamSearch => 2
  | .transfer => 3

/-- The length of a mode in dots (R451); for mode 1, of one V-blank line. -/
def Mode.length : Mode → Int
  | .hblank => 204
  | .vblank => 456
  | .oamSearch => 80
  | .transfer => 172

/-- LCDC[7] (R70): the display is on. -/
def Display.on (d : Display) : Bool := d.lcdc.getLsbD 7

/-- `Coincidence()` (R455): update STAT[2] and, with STAT[6] = 1, request interrupt 1 on a match. -/
def Devices.coincide (d : Devices) : Devices :=
  let hit := d.display.ly == d.display.lyc
  let d := { d with display := { d.display with coincidence := hit } }
  if hit && d.display.statEnable.getLsbD 3 then d.request 1 else d

/-- Enter `m`: its length is added to the dot budget, so a negative remainder is carried (R450). -/
def Devices.enter (m : Mode) (d : Devices) : Devices :=
  { d with display := { d.display with mode := m, dots := d.display.dots + m.length } }

/-- Request interrupt 1 when STAT bit `3 + i` enables it (R458). -/
def Devices.statRequest (i : Nat) (d : Devices) : Devices :=
  if d.display.statEnable.getLsbD i then d.request 1 else d

/-- The line after `ly` (R454): 154 wraps to 0. -/
def nextLine (ly : Byte) : Byte := if ly + 1 = 154 then 0 else ly + 1

/-- `EndOfLine()` (R454). -/
def Devices.endOfLine (d : Devices) : Devices :=
  let d := Devices.coincide { d with display := { d.display with ly := nextLine d.display.ly } }
  if d.display.ly < 144 then (d.enter .oamSearch).statRequest 2
  else if d.display.ly = 144 then
    let d := ((d.enter .vblank).request 0).statRequest 1
    { d with renderer := .swap :: d.renderer }
  else { d with display := { d.display with dots := d.display.dots + 456 } }

/-- `ModeEnd()` (R452-R454). -/
def Devices.modeEnd (d : Devices) : Devices :=
  match d.display.mode with
  | .oamSearch =>
    let d := d.enter .transfer
    { d with renderer := .scanline d.display.ly :: d.renderer }
  | .transfer => (d.enter .hblank).statRequest 0
  | .hblank => d.endOfLine
  | .vblank => d.endOfLine

/-- `while dots <= 0: ModeEnd()` (R450), at most `fuel` times. -/
def Devices.modeEnds : Nat → Devices → Devices
  | 0, d => d
  | fuel + 1, d => if d.display.dots ≤ 0 then Devices.modeEnds fuel d.modeEnd else d

/-- The loop of R450 run to its end: every `ModeEnd` adds at least 80 dots, so `1 - dots` turns are enough
(`Laws.settle_dots_pos`). -/
def Devices.settle (d : Devices) : Devices := Devices.modeEnds (1 - d.display.dots).toNat d

/-- `DisplayTick()` (R450): nothing while the display is off. -/
def Devices.displayTick (clocks : Nat) (d : Devices) : Devices :=
  if d.display.on then
    Devices.settle { d with display := { d.display with dots := d.display.dots - clocks } }
  else d

/-- Steps (1) and (2) of `Tick(1)` (20_memory.md R101): the timer, then the display. -/
def Devices.tick (clocks : Nat) (d : Devices) : Devices := (d.timerTick clocks).displayTick clocks

/-- LCDC write (R456): turning off clears LY and the mode with no interrupt; turning on restarts line 0 in mode 2 with a
coincidence check; otherwise only the byte is stored. -/
def Devices.writeLcdc (v : Byte) (d : Devices) : Devices :=
  let old := d.display.on
  let d := { d with display := { d.display with lcdc := v } }
  if old && !d.display.on then
    { d with display := { d.display with ly := 0, mode := .hblank, coincidence := (0 == d.display.lyc) } }
  else if !old && d.display.on then
    Devices.coincide { d with display := { d.display with ly := 0, mode := .oamSearch, dots := 80 } }
  else d

/-- LYC write (R459): the flag is updated, no interrupt is requested. -/
def Devices.writeLyc (v : Byte) (d : Devices) : Devices :=
  { d with display := { d.display with lyc := v, coincidence := (d.display.ly == v) } }

/-- STAT write (R459): STAT[6:3] only. -/
def Devices.writeStat (v : Byte) (d : Devices) : Devices :=
  { d with display := { d.display with statEnable := v.extractLsb' 3 4 } }

end Sys2Proof.Machine
end

