-- ==== Sys2Proof/Machine/Memory.lean ====
section
/-!
DEFINITION. Memory as a sparse list in canonical form: what an unlisted address reads as, reading and writing one byte,
the canonical form, and which keys are storage of the block (10_state.md R47, 20_memory.md R110).
-/

namespace Sys2Proof.Machine

/-- What an unlisted address reads as. DESIGN CHOICE, unsafe (log entry 2): the draw INIT_MEM and the cartridge image that are 0x00
everywhere; `State.resetWith` takes any other draw or image. -/
def Memory.unlisted (_a : Nat) : Byte := 0x00

/-- The byte at key `a`. -/
def Memory.read : Memory → Nat → Byte
  | [], a => Memory.unlisted a
  | (k, w) :: m, a => if k = a then w else Memory.read m a

/-- Store `v` at key `a`, keeping the canonical form. -/
def Memory.write : Memory → Nat → Byte → Memory
  | [], a, v => if v = Memory.unlisted a then [] else [(a, v)]
  | (k, w) :: m, a, v =>
    if a < k then (if v = Memory.unlisted a then (k, w) :: m else (a, v) :: (k, w) :: m)
    else if a = k then (if v = Memory.unlisted a then m else (a, v) :: m)
    else (k, w) :: Memory.write m a v

/-- The canonical form: addresses strictly rising, no entry equal to what an unlisted address reads as. -/
abbrev Memory.wf (m : Memory) : Prop :=
  m.Pairwise (fun x y => x.1 < y.1) ∧ ∀ x ∈ m, x.2 ≠ Memory.unlisted x.1

/-- The keys that are storage: the ROM image 0000-7FFF (R111) and the four RAM arrays of R47: VRAM, WRAM, OAM, HRAM. -/
def isStorage (k : Nat) : Bool :=
  k < 0xA000 || (0xC000 ≤ k && k < 0xE000) || (0xFE00 ≤ k && k < 0xFEA0) || (0xFF80 ≤ k && k < 0xFFFF)

/-- Every listed key is storage of the block. -/
abbrev Memory.inStorage (m : Memory) : Prop := ∀ x ∈ m, isStorage x.1 = true

end Sys2Proof.Machine
end

