-- ==== Sys2Proof/Machine/Router.lean ====
section
/-!
DEFINITION. The memory address router (20_memory.md §3, §5): the address map, the display locks, the peripheral register
map (10_state.md R50, R51), the cartridge and audio parameters, and OAM DMA.
Reads and writes here charge no cycle; `memRead` and `memWrite` (Machine/Ops.lean) add the tick.
-/

namespace Sys2Proof.Machine

/-- The regions of the address map (R110). -/
inductive Region where
  | rom
  | vram
  | cartRam
  | wram
  | echo
  | oam
  | unusable
  | io
  | hram
  | ie
deriving DecidableEq, Repr

/-- The address map of R110. -/
def region (a : Word) : Region :=
  let n := a.toNat
  if n < 0x8000 then .rom
  else if n < 0xA000 then .vram
  else if n < 0xC000 then .cartRam
  else if n < 0xE000 then .wram
  else if n < 0xFE00 then .echo
  else if n < 0xFEA0 then .oam
  else if n < 0xFF00 then .unusable
  else if n < 0xFF80 then .io
  else if n < 0xFFFF then .hram
  else .ie

/-- The peripheral registers by name (R50); `audio` is FF10-FF3F, `unmapped` every other address (R51). -/
inductive IoReg where
  | p1 | sb | sc | div | tima | tma | tac | ifReg | audio
  | lcdc | stat | scy | scx | ly | lyc | dma | bgp | obp0 | obp1 | wy | wx
  | unmapped
deriving DecidableEq, Repr

/-- Which register answers FF00 + `n` (R50, R51). -/
def ioReg (n : Nat) : IoReg :=
  match n with
  | 0x00 => .p1
  | 0x01 => .sb
  | 0x02 => .sc
  | 0x04 => .div
  | 0x05 => .tima
  | 0x06 => .tma
  | 0x07 => .tac
  | 0x0F => .ifReg
  | 0x40 => .lcdc
  | 0x41 => .stat
  | 0x42 => .scy
  | 0x43 => .scx
  | 0x44 => .ly
  | 0x45 => .lyc
  | 0x46 => .dma
  | 0x47 => .bgp
  | 0x48 => .obp0
  | 0x49 => .obp1
  | 0x4A => .wy
  | 0x4B => .wx
  | n => if 0x10 ≤ n ∧ n < 0x40 then .audio else .unmapped

/-- `vram_locked` (R115). -/
def State.vramLocked (s : State) : Bool := s.dev.display.on && s.dev.display.mode == .transfer

/-- `oam_locked` (R115). -/
def State.oamLocked (s : State) : Bool :=
  s.dev.display.on &&
    (s.dev.display.mode == .transfer || (s.params.oamLockMode2 && s.dev.display.mode == .oamSearch))

/-- `Mapper.read` (R111): the ROM-only default reads its image at 0000-7FFF and 0xFF at A000-BFFF. -/
def mapperRead (a : Word) (s : State) : Byte :=
  match s.params.mapper with
  | .romOnly => if a.toNat < 0x8000 then s.mem.read a.toNat else 0xFF
  | .external => Config.mapperRead s.mapperLog a

/-- `Mapper.write` (R111): ignored by the default; an external mapper records it in its own state. -/
def mapperWrite (a : Word) (v : Byte) (s : State) : State :=
  match s.params.mapper with
  | .romOnly => s
  | .external => { s with mapperLog := (a.toNat, v) :: s.mapperLog }

/-- `APU.read` (R8, R50). -/
def apuRead (a : Word) (s : State) : Byte :=
  match s.params.apu with
  | .silent => 0xFF
  | .external => Config.apuRead s.apuLog a

/-- `APU.write` (R8, R50). -/
def apuWrite (a : Word) (v : Byte) (s : State) : State :=
  match s.params.apu with
  | .silent => s
  | .external => { s with apuLog := (a.toNat, v) :: s.apuLog }

/-- `keys` of R80: active-low, the pressed keys of every group whose select bit is 0. -/
def Joypad.keys (j : Joypad) : BitVec 4 :=
  ~~~((if j.sel.getLsbD 0 then 0 else j.dirMask) ||| (if j.sel.getLsbD 1 then 0 else j.btnMask))

/-- STAT's mode field: 0 while LCDC[7] = 0 (R71). -/
def Display.modeBits (d : Display) : BitVec 2 := if d.on then d.mode.number else 0

/-- Which register answers an address of FF00-FF7F. -/
def ioRegAt (a : Word) : IoReg := ioReg (a.toNat - 0xFF00)

/-- The read column of R50; undefined bits read as 1. `a` is the address, for the APU. -/
def readIoReg (r : IoReg) (a : Word) (s : State) : Byte :=
  let t := s.dev.timer
  let d := s.dev.display
  match r with
  | .p1 => 0b11#2 ++ s.joypad.sel ++ s.joypad.keys
  | .sb => s.serial.sb
  | .sc => BitVec.ofBool s.serial.sc7 ++ 0b111111#6 ++ BitVec.ofBool s.serial.sc0
  | .div => t.counter.extractLsb' 8 8
  | .tima => t.tima
  | .tma => t.tma
  | .tac => 0b11111#5 ++ t.tac
  | .ifReg => 0b111#3 ++ s.dev.ifr
  | .audio => apuRead a s
  | .lcdc => d.lcdc
  | .stat => 1#1 ++ d.statEnable ++ BitVec.ofBool d.coincidence ++ d.modeBits
  | .scy => d.scy
  | .scx => d.scx
  | .ly => d.ly
  | .lyc => d.lyc
  | .dma => s.dma
  | .bgp => d.bgp
  | .obp0 => d.obp0
  | .obp1 => d.obp1
  | .wy => d.wy
  | .wx => d.wx
  | .unmapped => 0xFF

/-- A read of the peripheral registers (R50, R51). -/
def ioRead (a : Word) (s : State) : Byte := readIoReg (ioRegAt a) a s

/-- The address OAM DMA reads for page `v`, byte `i` (R130, R131): pages E0-FF are moved down by 0x2000. -/
def dmaSource (v : Byte) (i : Nat) : Word :=
  let a := (v ++ 0#8 : Word) + BitVec.ofNat 16 i
  if 0xE0 ≤ v then a - 0x2000 else a

/-- `Route.read(a)` (R110), with the display locks honoured or ignored (R116, R131). -/
def routeReadWith (locks : Bool) (a : Word) (s : State) : Byte :=
  match region a with
  | .rom => mapperRead a s
  | .vram => if locks && s.vramLocked then 0xFF else s.mem.read a.toNat
  | .cartRam => mapperRead a s
  | .wram => s.mem.read a.toNat
  | .echo => s.mem.read (a.toNat - 0x2000)
  | .oam => if locks && s.oamLocked then 0xFF else s.mem.read a.toNat
  | .unusable => 0xFF
  | .io => ioRead a s
  | .hram => s.mem.read a.toNat
  | .ie => s.ie

/-- `Route.read(a)` of a CPU access: the locks hold (R116). -/
def routeRead (a : Word) (s : State) : Byte := routeReadWith true a s

/-- `Route.dma_read` (R131) of byte `i` of page `v`: the locks are ignored. -/
def dmaRead (v : Byte) (i : Nat) (s : State) : Byte := routeReadWith false (dmaSource v i) s

/-- The first `n` bytes of the OAM copy of R130, in order. -/
def dmaCopy (v : Byte) : Nat → State → State
  | 0, s => s
  | n + 1, s =>
    let s := dmaCopy v n s
    { s with mem := s.mem.write (0xFE00 + n) (dmaRead v n s) }

/-- A write of `v` to FF46 (R130): store the byte, then copy 160 bytes, whatever the locks (R132). -/
def writeDma (v : Byte) (s : State) : State := dmaCopy v 160 { s with dma := v }

/-- The write column of R50. `a` is the address, for the APU. -/
def writeIoReg (r : IoReg) (a : Word) (v : Byte) (s : State) : State :=
  let dev := s.dev
  let t := dev.timer
  let d := dev.display
  match r with
  | .p1 => { s with joypad := { s.joypad with sel := v.extractLsb' 4 2 } }
  | .sb => { s with serial := { s.serial with sb := v } }
  | .sc => { s with serial := { s.serial with sc7 := v.getLsbD 7, sc0 := v.getLsbD 0 } }
  | .div => { s with dev := dev.writeDiv }
  | .tima => { s with dev := { dev with timer := { t with tima := v } } }
  | .tma => { s with dev := { dev with timer := { t with tma := v } } }
  | .tac => { s with dev := dev.writeTac v }
  | .ifReg => { s with dev := { dev with ifr := v.extractLsb' 0 5 } }
  | .audio => apuWrite a v s
  | .lcdc => { s with dev := dev.writeLcdc v }
  | .stat => { s with dev := dev.writeStat v }
  | .scy => { s with dev := { dev with display := { d with scy := v } } }
  | .scx => { s with dev := { dev with display := { d with scx := v } } }
  | .ly => s
  | .lyc => { s with dev := dev.writeLyc v }
  | .dma => writeDma v s
  | .bgp => { s with dev := { dev with display := { d with bgp := v } } }
  | .obp0 => { s with dev := { dev with display := { d with obp0 := v } } }
  | .obp1 => { s with dev := { dev with display := { d with obp1 := v } } }
  | .wy => { s with dev := { dev with display := { d with wy := v } } }
  | .wx => { s with dev := { dev with display := { d with wx := v } } }
  | .unmapped => s

/-- A write to the peripheral registers (R50, R51). -/
def ioWrite (a : Word) (v : Byte) (s : State) : State := writeIoReg (ioRegAt a) a v s

/-- `Route.write(a, v)` (R110). -/
def routeWrite (a : Word) (v : Byte) (s : State) : State :=
  match region a with
  | .rom => mapperWrite a v s
  | .vram => if s.vramLocked then s else { s with mem := s.mem.write a.toNat v }
  | .cartRam => mapperWrite a v s
  | .wram => { s with mem := s.mem.write a.toNat v }
  | .echo => { s with mem := s.mem.write (a.toNat - 0x2000) v }
  | .oam => if s.oamLocked then s else { s with mem := s.mem.write a.toNat v }
  | .unusable => s
  | .io => ioWrite a v s
  | .hram => { s with mem := s.mem.write a.toNat v }
  | .ie => { s with ie := v }

/-- The key under which a RAM or ROM address is stored, none for an address that is no storage of the block:
the mirror E000-FDFF is stored at C000-DDFF (R110). -/
def storageKey (a : Word) : Option Nat :=
  match region a with
  | .rom => some a.toNat
  | .vram => some a.toNat
  | .wram => some a.toNat
  | .echo => some (a.toNat - 0x2000)
  | .oam => some a.toNat
  | .hram => some a.toNat
  | .cartRam => none
  | .unusable => none
  | .io => none
  | .ie => none

/-- The memory keys a CPU write to `a` may change: its own byte, and for FF46 the whole of OAM (R130). Writes to ROM
change no memory (R111). -/
def storedKeys (a : Word) : List Nat :=
  if a = 0xFF46 then (List.range 160).map (0xFE00 + ·)
  else if a.toNat < 0x8000 then []
  else (storageKey a).toList

end Sys2Proof.Machine
end

