-- ==== Sys2Proof/Machine/Ops.lean ====
section
/-!
DEFINITION. The named operations over registers and memory: register and flag access, `Tick`, the bus and fetch primitives
(00_scope.md R11), the stack, interrupt dispatch and the return from it, the interrupt check, the enable latency, and the
sticky fault.
-/

namespace Sys2Proof.Machine

/-- What a meaning and a step answer. -/
abbrev Out := Host.Outcome State Fault Refusal

/-! ### Registers and flags -/

/-- `x[r]` (R10). -/
def State.reg (s : State) (r : R8) : Byte :=
  match r with
  | .b => s.regs.b
  | .c => s.regs.c
  | .d => s.regs.d
  | .e => s.regs.e
  | .h => s.regs.h
  | .l => s.regs.l
  | .a => s.regs.a

/-- `x[r] <- v` (R10). -/
def State.setReg (s : State) (r : R8) (v : Byte) : State :=
  match r with
  | .b => { s with regs := { s.regs with b := v } }
  | .c => { s with regs := { s.regs with c := v } }
  | .d => { s with regs := { s.regs with d := v } }
  | .e => { s with regs := { s.regs with e := v } }
  | .h => { s with regs := { s.regs with h := v } }
  | .l => { s with regs := { s.regs with l := v } }
  | .a => { s with regs := { s.regs with a := v } }

/-- The high byte of a word. -/
def hiByte (w : Word) : Byte := w.extractLsb' 8 8

/-- The low byte of a word. -/
def loByte (w : Word) : Byte := w.extractLsb' 0 8

/-- `x[rr]` (R10, R21). -/
def State.pair (s : State) (p : R16) : Word :=
  match p with
  | .bc => s.regs.b ++ s.regs.c
  | .de => s.regs.d ++ s.regs.e
  | .hl => s.regs.h ++ s.regs.l
  | .sp => s.regs.sp

/-- `x[rr] <- v` (R10, R21): a pair's high byte is its first register. -/
def State.setPair (s : State) (p : R16) (v : Word) : State :=
  match p with
  | .bc => { s with regs := { s.regs with b := hiByte v, c := loByte v } }
  | .de => { s with regs := { s.regs with d := hiByte v, e := loByte v } }
  | .hl => { s with regs := { s.regs with h := hiByte v, l := loByte v } }
  | .sp => { s with regs := { s.regs with sp := v } }

/-- The pair PUSH stores (R224). -/
def State.stkPair (s : State) (p : RStk) : Word :=
  match p with
  | .bc => s.pair .bc
  | .de => s.pair .de
  | .hl => s.pair .hl
  | .af => s.regs.a ++ s.regs.f

/-- The pair POP loads: `POP AF` drops the low nibble of F (R226). -/
def State.setStkPair (s : State) (p : RStk) (v : Word) : State :=
  match p with
  | .bc => s.setPair .bc v
  | .de => s.setPair .de v
  | .hl => s.setPair .hl v
  | .af => { s with regs := { s.regs with a := hiByte v, f := loByte v &&& 0xF0 } }

/-- `pc <- target`. -/
def State.setPc (s : State) (v : Word) : State := { s with regs := { s.regs with pc := v } }

/-- `flag.Z` (R24). -/
def State.zf (s : State) : Bool := s.regs.f.getLsbD 7

/-- `flag.N` (R24). -/
def State.nf (s : State) : Bool := s.regs.f.getLsbD 6

/-- `flag.H` (R24). -/
def State.hf (s : State) : Bool := s.regs.f.getLsbD 5

/-- `flag.C` (R24). -/
def State.cf (s : State) : Bool := s.regs.f.getLsbD 4

/-- Write the four flags; bits 3-0 of F become 0 (R23). -/
def State.setFlags (s : State) (z n h c : Bool) : State :=
  { s with regs := { s.regs with f := packFlags z n h c } }

/-- Write the flags of a computed result. -/
def State.setAluFlags (s : State) (o : AluOut) : State := s.setFlags o.z o.n o.h o.c

/-! ### Time and the bus -/

/-- `Tick(1)` (R101): the timer, the display, then the cycle count. -/
def State.tick (s : State) : State :=
  { s with dev := s.dev.tick s.params.clocksPerCycle, stepCycles := s.stepCycles + 1 }

/-- `Tick(n)` (R101). -/
def State.ticks : Nat → State → State
  | 0, s => s
  | n + 1, s => State.ticks n s.tick

/-- `MemRead(a, 1)` (R102): the access, then its tick. -/
def memRead (a : Word) (s : State) : Byte × State := (routeRead a s, s.tick)

/-- `MemWrite(a, 1, v)` (R102): the access, then its tick. -/
def memWrite (a : Word) (v : Byte) (s : State) : State := (routeWrite a v s).tick

/-- `FetchOp()` (R150): in the Bug state PC is not advanced and the state becomes Off. The address read is kept in `opPc`. -/
def fetchOp (s : State) : Byte × State :=
  let r := memRead s.regs.pc { s with opPc := s.regs.pc }
  if r.2.halt = .bug then (r.1, { r.2 with halt := .off }) else (r.1, r.2.setPc (r.2.regs.pc + 1))

/-- `Fetch8()` (R151). -/
def fetch8 (s : State) : Byte × State :=
  let r := memRead s.regs.pc s
  (r.1, r.2.setPc (r.2.regs.pc + 1))

/-! ### The stack -/

/-- SP decremented. -/
def State.decSp (s : State) : State := s.setPair .sp (s.regs.sp - 1)

/-- SP incremented. -/
def State.incSp (s : State) : State := s.setPair .sp (s.regs.sp + 1)

/-- `Push16(v)` (R227): the high byte, then the low byte. -/
def push16 (v : Word) (s : State) : State :=
  let s := s.decSp
  let s := memWrite s.regs.sp (hiByte v) s
  let s := s.decSp
  memWrite s.regs.sp (loByte v) s

/-- `Pop16()` (R228): the low byte, then the high byte. -/
def pop16 (s : State) : Word × State :=
  let lo := memRead s.regs.sp s
  let s := lo.2.incSp
  let hi := memRead s.regs.sp s
  (hi.1 ++ lo.1, hi.2.incSp)

/-! ### Interrupts -/

/-- `IE & IF & 0x1F` (R420). -/
def State.requests (s : State) : BitVec 5 := s.ie.extractLsb' 0 5 &&& s.dev.ifr

/-- `pending()` (R420). -/
def State.pending (s : State) : Bool := s.requests != 0

/-- The lowest set bit of the requests (R423). -/
def lowestRequest (p : BitVec 5) : Nat :=
  if p.getLsbD 0 then 0
  else if p.getLsbD 1 then 1
  else if p.getLsbD 2 then 2
  else if p.getLsbD 3 then 3
  else 4

/-- The handler address of source `k` (R422). -/
def handlerAddress (k : Nat) : Word := BitVec.ofNat 16 (0x0040 + 8 * k)

/-- `Dispatch()` (R425), the one entry to a handler: select the source and clear its request, close the master enable, leave
every halt state, push PC, charge the overhead, jump. -/
def dispatch (s : State) : State :=
  let k := lowestRequest s.requests
  let s := { s with
    dev := { s.dev with ifr := s.dev.ifr &&& ~~~(1#5 <<< k) }
    ime := false, imeState := .stable, halt := .off }
  let s := push16 s.regs.pc s
  let s := s.ticks 3
  s.setPc (handlerAddress k)

/-- The return from a handler (RETI, R310, R428): pop PC, one internal cycle, and the master enable set at once. -/
def returnFromInterrupt (s : State) : State :=
  let r := pop16 s
  let s := r.2.tick
  { s.setPc r.1 with ime := true, imeState := .stable }

/-- `CheckInterrupts()` (R402): a pending request wakes a halted CPU (R424) and, with IME = 1, is dispatched. -/
def checkInterrupts (s : State) : State :=
  if s.pending then
    let s := if s.halt = .on then { s with halt := .off } else s
    if s.ime then dispatch s else s
  else s

/-- `AdvanceIME()` (R406). -/
def advanceIme (s : State) : State :=
  match s.imeState with
  | .enableRequested => { s with imeState := .enableNow }
  | .enableNow => { s with ime := true, imeState := .stable }
  | .stable => s

/-- `raise Fault(reason)` (R403): record the reason; what follows in the step does not run (Machine/Step.lean). -/
def raiseFault (r : Fault) (s : State) : State := { s with fault := some r }

end Sys2Proof.Machine
end

