-- ==== Sys2Proof/Machine/Operands.lean ====
section
/-!
DEFINITION. The operand forms: the 8-bit operand field (30_encoding.md R156) read and written, the page FF00 (R161), and
the condition field (43_control.md R300).
-/

namespace Sys2Proof.Machine

/-- Read an 8-bit operand: a register, or the byte at HL by one bus read (R156, R350). -/
def readOpnd (o : Opnd8) (s : State) : Byte × State :=
  match o with
  | .reg r => (s.reg r, s)
  | .hlInd => memRead (s.pair .hl) s

/-- Write an 8-bit operand: a register, or the byte at HL by one bus write (R350). -/
def writeOpnd (o : Opnd8) (v : Byte) (s : State) : State :=
  match o with
  | .reg r => s.setReg r v
  | .hlInd => memWrite (s.pair .hl) v s

/-- `0xFF00 + zext_16(n)` (R161). -/
def ioPage (n : Byte) : Word := 0xFF00 + zext16 n

/-- `cond(cc)` (R300). -/
def State.cond (s : State) (cc : Cond) : Bool :=
  match cc with
  | .nz => !s.zf
  | .z => s.zf
  | .nc => !s.cf
  | .c => s.cf

end Sys2Proof.Machine
end

