-- ==== Sys2Proof/Machine/Alu16.lean ====
section
/-!
DEFINITION. 16-bit arithmetic (42_alu16.md). The shared operations first, then one meaning per row.
A meaning starts after the instruction's bytes have been fetched.
-/

namespace Sys2Proof.Machine

/-- `INC rr` (R281): no flag changes. -/
def incPair (p : R16) (s : State) : State :=
  let s := s.tick
  s.setPair p (s.pair p + 1)

/-- `DEC rr` (R282): no flag changes. -/
def decPair (p : R16) (s : State) : State :=
  let s := s.tick
  s.setPair p (s.pair p - 1)

/-- `ADD HL,rr` (R283): Z is kept. -/
def addHl (p : R16) (s : State) : State :=
  let o := addWords (s.pair .hl) (s.pair p)
  let s := s.tick
  (s.setPair .hl o.val).setFlags s.zf false o.h o.c

/-- `ADD SP,e8` (R284). -/
def addSp (e : Byte) (s : State) : State :=
  let o := spPlusE8 s.regs.sp e
  let s := s.ticks 2
  (s.setPair .sp o.val).setFlags false false o.h o.c

/-! ### The rows -/

/-- `INC BC` (R281). -/
def execIncBc (s : State) : Out :=
  .next (incPair .bc s)

/-- `ADD HL,BC` (R283). -/
def execAddHlBc (s : State) : Out :=
  .next (addHl .bc s)

/-- `DEC BC` (R282). -/
def execDecBc (s : State) : Out :=
  .next (decPair .bc s)

/-- `INC DE` (R281). -/
def execIncDe (s : State) : Out :=
  .next (incPair .de s)

/-- `ADD HL,DE` (R283). -/
def execAddHlDe (s : State) : Out :=
  .next (addHl .de s)

/-- `DEC DE` (R282). -/
def execDecDe (s : State) : Out :=
  .next (decPair .de s)

/-- `INC HL` (R281). -/
def execIncHl (s : State) : Out :=
  .next (incPair .hl s)

/-- `ADD HL,HL` (R283). -/
def execAddHlHl (s : State) : Out :=
  .next (addHl .hl s)

/-- `DEC HL` (R282). -/
def execDecHl (s : State) : Out :=
  .next (decPair .hl s)

/-- `INC SP` (R281). -/
def execIncSp (s : State) : Out :=
  .next (incPair .sp s)

/-- `ADD HL,SP` (R283). -/
def execAddHlSp (s : State) : Out :=
  .next (addHl .sp s)

/-- `DEC SP` (R282). -/
def execDecSp (s : State) : Out :=
  .next (decPair .sp s)

/-- `ADD SP,e8` (R284). -/
def execAddSpE8 (e : Byte) (s : State) : Out :=
  .next (addSp e s)

end Sys2Proof.Machine
end

