-- ==== Sys2Proof/Machine/Alu8.lean ====
section
/-!
DEFINITION. 8-bit arithmetic, logic and accumulator operations (41_alu8.md). The shared operations first, then one meaning per row.
A meaning starts after the instruction's bytes have been fetched.
-/

namespace Sys2Proof.Machine

/-- The ALU operation `op` of A and `v`: the flags, and A unless `op` is CP (R240-R264). -/
def applyAlu (op : AluOp) (v : Byte) (s : State) : State :=
  let o := alu8 op s.regs.a v s.cf
  let s := if aluWrites op then s.setReg .a o.val else s
  s.setAluFlags o

/-- The ALU group on a register or (HL). -/
def aluOpnd (op : AluOp) (x : Opnd8) (s : State) : State :=
  let r := readOpnd x s
  applyAlu op r.1 r.2

/-- The ALU group on an immediate. -/
def aluImm (op : AluOp) (v : Byte) (s : State) : State := applyAlu op v s

/-- `INC r`, `INC (HL)` (R265, R266): C is kept. -/
def incOpnd (x : Opnd8) (s : State) : State :=
  let r := readOpnd x s
  let o := inc8 r.1 s.cf
  (writeOpnd x o.val r.2).setAluFlags o

/-- `DEC r`, `DEC (HL)` (R267, R268): C is kept. -/
def decOpnd (x : Opnd8) (s : State) : State :=
  let r := readOpnd x s
  let o := dec8 r.1 s.cf
  (writeOpnd x o.val r.2).setAluFlags o

/-- `DAA` (R269). -/
def decimalAdjust (s : State) : State :=
  let o := daa8 s.regs.a s.nf s.hf s.cf
  (s.setReg .a o.val).setAluFlags o

/-- `CPL` (R270). -/
def complementA (s : State) : State := (s.setReg .a (~~~s.regs.a)).setFlags s.zf true true s.cf

/-- `SCF` (R271). -/
def setCarry (s : State) : State := s.setFlags s.zf false false true

/-- `CCF` (R272). -/
def complementCarry (s : State) : State := s.setFlags s.zf false false (!s.cf)

/-- The accumulator rotates (R273-R276): as the secondary rotates, but Z is always 0. -/
def rotA (op : RotOp) (s : State) : State :=
  let o := rot8 op s.regs.a s.cf
  (s.setReg .a o.val).setFlags false o.n o.h o.c

/-! ### The rows -/

/-- `INC B` (R265). -/
def execIncB (s : State) : Out :=
  .next (incOpnd (.reg .b) s)

/-- `DEC B` (R267). -/
def execDecB (s : State) : Out :=
  .next (decOpnd (.reg .b) s)

/-- `RLCA` (R273). -/
def execRlca (s : State) : Out :=
  .next (rotA .rlc s)

/-- `INC C` (R265). -/
def execIncC (s : State) : Out :=
  .next (incOpnd (.reg .c) s)

/-- `DEC C` (R267). -/
def execDecC (s : State) : Out :=
  .next (decOpnd (.reg .c) s)

/-- `RRCA` (R274). -/
def execRrca (s : State) : Out :=
  .next (rotA .rrc s)

/-- `INC D` (R265). -/
def execIncD (s : State) : Out :=
  .next (incOpnd (.reg .d) s)

/-- `DEC D` (R267). -/
def execDecD (s : State) : Out :=
  .next (decOpnd (.reg .d) s)

/-- `RLA` (R275). -/
def execRla (s : State) : Out :=
  .next (rotA .rl s)

/-- `INC E` (R265). -/
def execIncE (s : State) : Out :=
  .next (incOpnd (.reg .e) s)

/-- `DEC E` (R267). -/
def execDecE (s : State) : Out :=
  .next (decOpnd (.reg .e) s)

/-- `RRA` (R276). -/
def execRra (s : State) : Out :=
  .next (rotA .rr s)

/-- `INC H` (R265). -/
def execIncH (s : State) : Out :=
  .next (incOpnd (.reg .h) s)

/-- `DEC H` (R267). -/
def execDecH (s : State) : Out :=
  .next (decOpnd (.reg .h) s)

/-- `DAA` (R269). -/
def execDaa (s : State) : Out :=
  .next (decimalAdjust s)

/-- `INC L` (R265). -/
def execIncL (s : State) : Out :=
  .next (incOpnd (.reg .l) s)

/-- `DEC L` (R267). -/
def execDecL (s : State) : Out :=
  .next (decOpnd (.reg .l) s)

/-- `CPL` (R270). -/
def execCpl (s : State) : Out :=
  .next (complementA s)

/-- `INC (HL)` (R266). -/
def execIncIndHl (s : State) : Out :=
  .next (incOpnd .hlInd s)

/-- `DEC (HL)` (R268). -/
def execDecIndHl (s : State) : Out :=
  .next (decOpnd .hlInd s)

/-- `SCF` (R271). -/
def execScf (s : State) : Out :=
  .next (setCarry s)

/-- `INC A` (R265). -/
def execIncA (s : State) : Out :=
  .next (incOpnd (.reg .a) s)

/-- `DEC A` (R267). -/
def execDecA (s : State) : Out :=
  .next (decOpnd (.reg .a) s)

/-- `CCF` (R272). -/
def execCcf (s : State) : Out :=
  .next (complementCarry s)

/-- `ADD A,B` (R241). -/
def execAddAB (s : State) : Out :=
  .next (aluOpnd .add (.reg .b) s)

/-- `ADD A,C` (R241). -/
def execAddAC (s : State) : Out :=
  .next (aluOpnd .add (.reg .c) s)

/-- `ADD A,D` (R241). -/
def execAddAD (s : State) : Out :=
  .next (aluOpnd .add (.reg .d) s)

/-- `ADD A,E` (R241). -/
def execAddAE (s : State) : Out :=
  .next (aluOpnd .add (.reg .e) s)

/-- `ADD A,H` (R241). -/
def execAddAH (s : State) : Out :=
  .next (aluOpnd .add (.reg .h) s)

/-- `ADD A,L` (R241). -/
def execAddAL (s : State) : Out :=
  .next (aluOpnd .add (.reg .l) s)

/-- `ADD A,(HL)` (R242). -/
def execAddAIndHl (s : State) : Out :=
  .next (aluOpnd .add .hlInd s)

/-- `ADD A,A` (R241). -/
def execAddAA (s : State) : Out :=
  .next (aluOpnd .add (.reg .a) s)

/-- `ADC A,B` (R244). -/
def execAdcAB (s : State) : Out :=
  .next (aluOpnd .adc (.reg .b) s)

/-- `ADC A,C` (R244). -/
def execAdcAC (s : State) : Out :=
  .next (aluOpnd .adc (.reg .c) s)

/-- `ADC A,D` (R244). -/
def execAdcAD (s : State) : Out :=
  .next (aluOpnd .adc (.reg .d) s)

/-- `ADC A,E` (R244). -/
def execAdcAE (s : State) : Out :=
  .next (aluOpnd .adc (.reg .e) s)

/-- `ADC A,H` (R244). -/
def execAdcAH (s : State) : Out :=
  .next (aluOpnd .adc (.reg .h) s)

/-- `ADC A,L` (R244). -/
def execAdcAL (s : State) : Out :=
  .next (aluOpnd .adc (.reg .l) s)

/-- `ADC A,(HL)` (R245). -/
def execAdcAIndHl (s : State) : Out :=
  .next (aluOpnd .adc .hlInd s)

/-- `ADC A,A` (R244). -/
def execAdcAA (s : State) : Out :=
  .next (aluOpnd .adc (.reg .a) s)

/-- `SUB A,B` (R247). -/
def execSubAB (s : State) : Out :=
  .next (aluOpnd .sub (.reg .b) s)

/-- `SUB A,C` (R247). -/
def execSubAC (s : State) : Out :=
  .next (aluOpnd .sub (.reg .c) s)

/-- `SUB A,D` (R247). -/
def execSubAD (s : State) : Out :=
  .next (aluOpnd .sub (.reg .d) s)

/-- `SUB A,E` (R247). -/
def execSubAE (s : State) : Out :=
  .next (aluOpnd .sub (.reg .e) s)

/-- `SUB A,H` (R247). -/
def execSubAH (s : State) : Out :=
  .next (aluOpnd .sub (.reg .h) s)

/-- `SUB A,L` (R247). -/
def execSubAL (s : State) : Out :=
  .next (aluOpnd .sub (.reg .l) s)

/-- `SUB A,(HL)` (R248). -/
def execSubAIndHl (s : State) : Out :=
  .next (aluOpnd .sub .hlInd s)

/-- `SUB A,A` (R247). -/
def execSubAA (s : State) : Out :=
  .next (aluOpnd .sub (.reg .a) s)

/-- `SBC A,B` (R250). -/
def execSbcAB (s : State) : Out :=
  .next (aluOpnd .sbc (.reg .b) s)

/-- `SBC A,C` (R250). -/
def execSbcAC (s : State) : Out :=
  .next (aluOpnd .sbc (.reg .c) s)

/-- `SBC A,D` (R250). -/
def execSbcAD (s : State) : Out :=
  .next (aluOpnd .sbc (.reg .d) s)

/-- `SBC A,E` (R250). -/
def execSbcAE (s : State) : Out :=
  .next (aluOpnd .sbc (.reg .e) s)

/-- `SBC A,H` (R250). -/
def execSbcAH (s : State) : Out :=
  .next (aluOpnd .sbc (.reg .h) s)

/-- `SBC A,L` (R250). -/
def execSbcAL (s : State) : Out :=
  .next (aluOpnd .sbc (.reg .l) s)

/-- `SBC A,(HL)` (R251). -/
def execSbcAIndHl (s : State) : Out :=
  .next (aluOpnd .sbc .hlInd s)

/-- `SBC A,A` (R250). -/
def execSbcAA (s : State) : Out :=
  .next (aluOpnd .sbc (.reg .a) s)

/-- `AND A,B` (R253). -/
def execAndAB (s : State) : Out :=
  .next (aluOpnd .and (.reg .b) s)

/-- `AND A,C` (R253). -/
def execAndAC (s : State) : Out :=
  .next (aluOpnd .and (.reg .c) s)

/-- `AND A,D` (R253). -/
def execAndAD (s : State) : Out :=
  .next (aluOpnd .and (.reg .d) s)

/-- `AND A,E` (R253). -/
def execAndAE (s : State) : Out :=
  .next (aluOpnd .and (.reg .e) s)

/-- `AND A,H` (R253). -/
def execAndAH (s : State) : Out :=
  .next (aluOpnd .and (.reg .h) s)

/-- `AND A,L` (R253). -/
def execAndAL (s : State) : Out :=
  .next (aluOpnd .and (.reg .l) s)

/-- `AND A,(HL)` (R254). -/
def execAndAIndHl (s : State) : Out :=
  .next (aluOpnd .and .hlInd s)

/-- `AND A,A` (R253). -/
def execAndAA (s : State) : Out :=
  .next (aluOpnd .and (.reg .a) s)

/-- `XOR A,B` (R256). -/
def execXorAB (s : State) : Out :=
  .next (aluOpnd .xor (.reg .b) s)

/-- `XOR A,C` (R256). -/
def execXorAC (s : State) : Out :=
  .next (aluOpnd .xor (.reg .c) s)

/-- `XOR A,D` (R256). -/
def execXorAD (s : State) : Out :=
  .next (aluOpnd .xor (.reg .d) s)

/-- `XOR A,E` (R256). -/
def execXorAE (s : State) : Out :=
  .next (aluOpnd .xor (.reg .e) s)

/-- `XOR A,H` (R256). -/
def execXorAH (s : State) : Out :=
  .next (aluOpnd .xor (.reg .h) s)

/-- `XOR A,L` (R256). -/
def execXorAL (s : State) : Out :=
  .next (aluOpnd .xor (.reg .l) s)

/-- `XOR A,(HL)` (R257). -/
def execXorAIndHl (s : State) : Out :=
  .next (aluOpnd .xor .hlInd s)

/-- `XOR A,A` (R256). -/
def execXorAA (s : State) : Out :=
  .next (aluOpnd .xor (.reg .a) s)

/-- `OR A,B` (R259). -/
def execOrAB (s : State) : Out :=
  .next (aluOpnd .or (.reg .b) s)

/-- `OR A,C` (R259). -/
def execOrAC (s : State) : Out :=
  .next (aluOpnd .or (.reg .c) s)

/-- `OR A,D` (R259). -/
def execOrAD (s : State) : Out :=
  .next (aluOpnd .or (.reg .d) s)

/-- `OR A,E` (R259). -/
def execOrAE (s : State) : Out :=
  .next (aluOpnd .or (.reg .e) s)

/-- `OR A,H` (R259). -/
def execOrAH (s : State) : Out :=
  .next (aluOpnd .or (.reg .h) s)

/-- `OR A,L` (R259). -/
def execOrAL (s : State) : Out :=
  .next (aluOpnd .or (.reg .l) s)

/-- `OR A,(HL)` (R260). -/
def execOrAIndHl (s : State) : Out :=
  .next (aluOpnd .or .hlInd s)

/-- `OR A,A` (R259). -/
def execOrAA (s : State) : Out :=
  .next (aluOpnd .or (.reg .a) s)

/-- `CP A,B` (R262). -/
def execCpAB (s : State) : Out :=
  .next (aluOpnd .cp (.reg .b) s)

/-- `CP A,C` (R262). -/
def execCpAC (s : State) : Out :=
  .next (aluOpnd .cp (.reg .c) s)

/-- `CP A,D` (R262). -/
def execCpAD (s : State) : Out :=
  .next (aluOpnd .cp (.reg .d) s)

/-- `CP A,E` (R262). -/
def execCpAE (s : State) : Out :=
  .next (aluOpnd .cp (.reg .e) s)

/-- `CP A,H` (R262). -/
def execCpAH (s : State) : Out :=
  .next (aluOpnd .cp (.reg .h) s)

/-- `CP A,L` (R262). -/
def execCpAL (s : State) : Out :=
  .next (aluOpnd .cp (.reg .l) s)

/-- `CP A,(HL)` (R263). -/
def execCpAIndHl (s : State) : Out :=
  .next (aluOpnd .cp .hlInd s)

/-- `CP A,A` (R262). -/
def execCpAA (s : State) : Out :=
  .next (aluOpnd .cp (.reg .a) s)

/-- `ADD A,d8` (R243). -/
def execAddAD8 (d : Byte) (s : State) : Out :=
  .next (aluImm .add d s)

/-- `ADC A,d8` (R246). -/
def execAdcAD8 (d : Byte) (s : State) : Out :=
  .next (aluImm .adc d s)

/-- `SUB A,d8` (R249). -/
def execSubAD8 (d : Byte) (s : State) : Out :=
  .next (aluImm .sub d s)

/-- `SBC A,d8` (R252). -/
def execSbcAD8 (d : Byte) (s : State) : Out :=
  .next (aluImm .sbc d s)

/-- `AND A,d8` (R255). -/
def execAndAD8 (d : Byte) (s : State) : Out :=
  .next (aluImm .and d s)

/-- `XOR A,d8` (R258). -/
def execXorAD8 (d : Byte) (s : State) : Out :=
  .next (aluImm .xor d s)

/-- `OR A,d8` (R261). -/
def execOrAD8 (d : Byte) (s : State) : Out :=
  .next (aluImm .or d s)

/-- `CP A,d8` (R264). -/
def execCpAD8 (d : Byte) (s : State) : Out :=
  .next (aluImm .cp d s)

end Sys2Proof.Machine
end

