-- ==== Sys2Proof/Machine/Cb.lean ====
section
/-!
DEFINITION. CB-prefixed bit, rotate and shift instructions (45_cb.md), and the escape byte (44_system.md R336). The shared
operations first, then one meaning per row, then the row of the escape byte, which executes them.
-/

namespace Sys2Proof.Machine

/-- The rotate and shift group (R350-R366). -/
def rotOpnd (op : RotOp) (x : Opnd8) (s : State) : State :=
  let r := readOpnd x s
  let o := rot8 op r.1 r.2.cf
  (writeOpnd x o.val r.2).setAluFlags o

/-- `BIT b` (R367, R368): nothing is written back, C is kept. -/
def bitTest (b : Fin 8) (x : Opnd8) (s : State) : State :=
  let r := readOpnd x s
  r.2.setFlags (!r.1.getLsbD b) false true r.2.cf

/-- `RES b` (R369, R370): no flag changes. -/
def bitReset (b : Fin 8) (x : Opnd8) (s : State) : State :=
  let r := readOpnd x s
  writeOpnd x (r.1 &&& ~~~bitMask b) r.2

/-- `SET b` (R371, R372): no flag changes. -/
def bitSet (b : Fin 8) (x : Opnd8) (s : State) : State :=
  let r := readOpnd x s
  writeOpnd x (r.1 ||| bitMask b) r.2

/-! ### The rows -/

/-- `RLC B` (R351). -/
def execRlcB (s : State) : Out :=
  .next (rotOpnd .rlc (.reg .b) s)

/-- `RLC C` (R351). -/
def execRlcC (s : State) : Out :=
  .next (rotOpnd .rlc (.reg .c) s)

/-- `RLC D` (R351). -/
def execRlcD (s : State) : Out :=
  .next (rotOpnd .rlc (.reg .d) s)

/-- `RLC E` (R351). -/
def execRlcE (s : State) : Out :=
  .next (rotOpnd .rlc (.reg .e) s)

/-- `RLC H` (R351). -/
def execRlcH (s : State) : Out :=
  .next (rotOpnd .rlc (.reg .h) s)

/-- `RLC L` (R351). -/
def execRlcL (s : State) : Out :=
  .next (rotOpnd .rlc (.reg .l) s)

/-- `RLC (HL)` (R352). -/
def execRlcIndHl (s : State) : Out :=
  .next (rotOpnd .rlc .hlInd s)

/-- `RLC A` (R351). -/
def execRlcA (s : State) : Out :=
  .next (rotOpnd .rlc (.reg .a) s)

/-- `RRC B` (R353). -/
def execRrcB (s : State) : Out :=
  .next (rotOpnd .rrc (.reg .b) s)

/-- `RRC C` (R353). -/
def execRrcC (s : State) : Out :=
  .next (rotOpnd .rrc (.reg .c) s)

/-- `RRC D` (R353). -/
def execRrcD (s : State) : Out :=
  .next (rotOpnd .rrc (.reg .d) s)

/-- `RRC E` (R353). -/
def execRrcE (s : State) : Out :=
  .next (rotOpnd .rrc (.reg .e) s)

/-- `RRC H` (R353). -/
def execRrcH (s : State) : Out :=
  .next (rotOpnd .rrc (.reg .h) s)

/-- `RRC L` (R353). -/
def execRrcL (s : State) : Out :=
  .next (rotOpnd .rrc (.reg .l) s)

/-- `RRC (HL)` (R354). -/
def execRrcIndHl (s : State) : Out :=
  .next (rotOpnd .rrc .hlInd s)

/-- `RRC A` (R353). -/
def execRrcA (s : State) : Out :=
  .next (rotOpnd .rrc (.reg .a) s)

/-- `RL B` (R355). -/
def execRlB (s : State) : Out :=
  .next (rotOpnd .rl (.reg .b) s)

/-- `RL C` (R355). -/
def execRlC (s : State) : Out :=
  .next (rotOpnd .rl (.reg .c) s)

/-- `RL D` (R355). -/
def execRlD (s : State) : Out :=
  .next (rotOpnd .rl (.reg .d) s)

/-- `RL E` (R355). -/
def execRlE (s : State) : Out :=
  .next (rotOpnd .rl (.reg .e) s)

/-- `RL H` (R355). -/
def execRlH (s : State) : Out :=
  .next (rotOpnd .rl (.reg .h) s)

/-- `RL L` (R355). -/
def execRlL (s : State) : Out :=
  .next (rotOpnd .rl (.reg .l) s)

/-- `RL (HL)` (R356). -/
def execRlIndHl (s : State) : Out :=
  .next (rotOpnd .rl .hlInd s)

/-- `RL A` (R355). -/
def execRlA (s : State) : Out :=
  .next (rotOpnd .rl (.reg .a) s)

/-- `RR B` (R357). -/
def execRrB (s : State) : Out :=
  .next (rotOpnd .rr (.reg .b) s)

/-- `RR C` (R357). -/
def execRrC (s : State) : Out :=
  .next (rotOpnd .rr (.reg .c) s)

/-- `RR D` (R357). -/
def execRrD (s : State) : Out :=
  .next (rotOpnd .rr (.reg .d) s)

/-- `RR E` (R357). -/
def execRrE (s : State) : Out :=
  .next (rotOpnd .rr (.reg .e) s)

/-- `RR H` (R357). -/
def execRrH (s : State) : Out :=
  .next (rotOpnd .rr (.reg .h) s)

/-- `RR L` (R357). -/
def execRrL (s : State) : Out :=
  .next (rotOpnd .rr (.reg .l) s)

/-- `RR (HL)` (R358). -/
def execRrIndHl (s : State) : Out :=
  .next (rotOpnd .rr .hlInd s)

/-- `RR A` (R357). -/
def execRrA (s : State) : Out :=
  .next (rotOpnd .rr (.reg .a) s)

/-- `SLA B` (R359). -/
def execSlaB (s : State) : Out :=
  .next (rotOpnd .sla (.reg .b) s)

/-- `SLA C` (R359). -/
def execSlaC (s : State) : Out :=
  .next (rotOpnd .sla (.reg .c) s)

/-- `SLA D` (R359). -/
def execSlaD (s : State) : Out :=
  .next (rotOpnd .sla (.reg .d) s)

/-- `SLA E` (R359). -/
def execSlaE (s : State) : Out :=
  .next (rotOpnd .sla (.reg .e) s)

/-- `SLA H` (R359). -/
def execSlaH (s : State) : Out :=
  .next (rotOpnd .sla (.reg .h) s)

/-- `SLA L` (R359). -/
def execSlaL (s : State) : Out :=
  .next (rotOpnd .sla (.reg .l) s)

/-- `SLA (HL)` (R360). -/
def execSlaIndHl (s : State) : Out :=
  .next (rotOpnd .sla .hlInd s)

/-- `SLA A` (R359). -/
def execSlaA (s : State) : Out :=
  .next (rotOpnd .sla (.reg .a) s)

/-- `SRA B` (R361). -/
def execSraB (s : State) : Out :=
  .next (rotOpnd .sra (.reg .b) s)

/-- `SRA C` (R361). -/
def execSraC (s : State) : Out :=
  .next (rotOpnd .sra (.reg .c) s)

/-- `SRA D` (R361). -/
def execSraD (s : State) : Out :=
  .next (rotOpnd .sra (.reg .d) s)

/-- `SRA E` (R361). -/
def execSraE (s : State) : Out :=
  .next (rotOpnd .sra (.reg .e) s)

/-- `SRA H` (R361). -/
def execSraH (s : State) : Out :=
  .next (rotOpnd .sra (.reg .h) s)

/-- `SRA L` (R361). -/
def execSraL (s : State) : Out :=
  .next (rotOpnd .sra (.reg .l) s)

/-- `SRA (HL)` (R362). -/
def execSraIndHl (s : State) : Out :=
  .next (rotOpnd .sra .hlInd s)

/-- `SRA A` (R361). -/
def execSraA (s : State) : Out :=
  .next (rotOpnd .sra (.reg .a) s)

/-- `SWAP B` (R363). -/
def execSwapB (s : State) : Out :=
  .next (rotOpnd .swap (.reg .b) s)

/-- `SWAP C` (R363). -/
def execSwapC (s : State) : Out :=
  .next (rotOpnd .swap (.reg .c) s)

/-- `SWAP D` (R363). -/
def execSwapD (s : State) : Out :=
  .next (rotOpnd .swap (.reg .d) s)

/-- `SWAP E` (R363). -/
def execSwapE (s : State) : Out :=
  .next (rotOpnd .swap (.reg .e) s)

/-- `SWAP H` (R363). -/
def execSwapH (s : State) : Out :=
  .next (rotOpnd .swap (.reg .h) s)

/-- `SWAP L` (R363). -/
def execSwapL (s : State) : Out :=
  .next (rotOpnd .swap (.reg .l) s)

/-- `SWAP (HL)` (R364). -/
def execSwapIndHl (s : State) : Out :=
  .next (rotOpnd .swap .hlInd s)

/-- `SWAP A` (R363). -/
def execSwapA (s : State) : Out :=
  .next (rotOpnd .swap (.reg .a) s)

/-- `SRL B` (R365). -/
def execSrlB (s : State) : Out :=
  .next (rotOpnd .srl (.reg .b) s)

/-- `SRL C` (R365). -/
def execSrlC (s : State) : Out :=
  .next (rotOpnd .srl (.reg .c) s)

/-- `SRL D` (R365). -/
def execSrlD (s : State) : Out :=
  .next (rotOpnd .srl (.reg .d) s)

/-- `SRL E` (R365). -/
def execSrlE (s : State) : Out :=
  .next (rotOpnd .srl (.reg .e) s)

/-- `SRL H` (R365). -/
def execSrlH (s : State) : Out :=
  .next (rotOpnd .srl (.reg .h) s)

/-- `SRL L` (R365). -/
def execSrlL (s : State) : Out :=
  .next (rotOpnd .srl (.reg .l) s)

/-- `SRL (HL)` (R366). -/
def execSrlIndHl (s : State) : Out :=
  .next (rotOpnd .srl .hlInd s)

/-- `SRL A` (R365). -/
def execSrlA (s : State) : Out :=
  .next (rotOpnd .srl (.reg .a) s)

/-- `BIT 0,B` (R367). -/
def execBit0B (s : State) : Out :=
  .next (bitTest 0 (.reg .b) s)

/-- `BIT 0,C` (R367). -/
def execBit0C (s : State) : Out :=
  .next (bitTest 0 (.reg .c) s)

/-- `BIT 0,D` (R367). -/
def execBit0D (s : State) : Out :=
  .next (bitTest 0 (.reg .d) s)

/-- `BIT 0,E` (R367). -/
def execBit0E (s : State) : Out :=
  .next (bitTest 0 (.reg .e) s)

/-- `BIT 0,H` (R367). -/
def execBit0H (s : State) : Out :=
  .next (bitTest 0 (.reg .h) s)

/-- `BIT 0,L` (R367). -/
def execBit0L (s : State) : Out :=
  .next (bitTest 0 (.reg .l) s)

/-- `BIT 0,(HL)` (R368). -/
def execBit0IndHl (s : State) : Out :=
  .next (bitTest 0 .hlInd s)

/-- `BIT 0,A` (R367). -/
def execBit0A (s : State) : Out :=
  .next (bitTest 0 (.reg .a) s)

/-- `BIT 1,B` (R367). -/
def execBit1B (s : State) : Out :=
  .next (bitTest 1 (.reg .b) s)

/-- `BIT 1,C` (R367). -/
def execBit1C (s : State) : Out :=
  .next (bitTest 1 (.reg .c) s)

/-- `BIT 1,D` (R367). -/
def execBit1D (s : State) : Out :=
  .next (bitTest 1 (.reg .d) s)

/-- `BIT 1,E` (R367). -/
def execBit1E (s : State) : Out :=
  .next (bitTest 1 (.reg .e) s)

/-- `BIT 1,H` (R367). -/
def execBit1H (s : State) : Out :=
  .next (bitTest 1 (.reg .h) s)

/-- `BIT 1,L` (R367). -/
def execBit1L (s : State) : Out :=
  .next (bitTest 1 (.reg .l) s)

/-- `BIT 1,(HL)` (R368). -/
def execBit1IndHl (s : State) : Out :=
  .next (bitTest 1 .hlInd s)

/-- `BIT 1,A` (R367). -/
def execBit1A (s : State) : Out :=
  .next (bitTest 1 (.reg .a) s)

/-- `BIT 2,B` (R367). -/
def execBit2B (s : State) : Out :=
  .next (bitTest 2 (.reg .b) s)

/-- `BIT 2,C` (R367). -/
def execBit2C (s : State) : Out :=
  .next (bitTest 2 (.reg .c) s)

/-- `BIT 2,D` (R367). -/
def execBit2D (s : State) : Out :=
  .next (bitTest 2 (.reg .d) s)

/-- `BIT 2,E` (R367). -/
def execBit2E (s : State) : Out :=
  .next (bitTest 2 (.reg .e) s)

/-- `BIT 2,H` (R367). -/
def execBit2H (s : State) : Out :=
  .next (bitTest 2 (.reg .h) s)

/-- `BIT 2,L` (R367). -/
def execBit2L (s : State) : Out :=
  .next (bitTest 2 (.reg .l) s)

/-- `BIT 2,(HL)` (R368). -/
def execBit2IndHl (s : State) : Out :=
  .next (bitTest 2 .hlInd s)

/-- `BIT 2,A` (R367). -/
def execBit2A (s : State) : Out :=
  .next (bitTest 2 (.reg .a) s)

/-- `BIT 3,B` (R367). -/
def execBit3B (s : State) : Out :=
  .next (bitTest 3 (.reg .b) s)

/-- `BIT 3,C` (R367). -/
def execBit3C (s : State) : Out :=
  .next (bitTest 3 (.reg .c) s)

/-- `BIT 3,D` (R367). -/
def execBit3D (s : State) : Out :=
  .next (bitTest 3 (.reg .d) s)

/-- `BIT 3,E` (R367). -/
def execBit3E (s : State) : Out :=
  .next (bitTest 3 (.reg .e) s)

/-- `BIT 3,H` (R367). -/
def execBit3H (s : State) : Out :=
  .next (bitTest 3 (.reg .h) s)

/-- `BIT 3,L` (R367). -/
def execBit3L (s : State) : Out :=
  .next (bitTest 3 (.reg .l) s)

/-- `BIT 3,(HL)` (R368). -/
def execBit3IndHl (s : State) : Out :=
  .next (bitTest 3 .hlInd s)

/-- `BIT 3,A` (R367). -/
def execBit3A (s : State) : Out :=
  .next (bitTest 3 (.reg .a) s)

/-- `BIT 4,B` (R367). -/
def execBit4B (s : State) : Out :=
  .next (bitTest 4 (.reg .b) s)

/-- `BIT 4,C` (R367). -/
def execBit4C (s : State) : Out :=
  .next (bitTest 4 (.reg .c) s)

/-- `BIT 4,D` (R367). -/
def execBit4D (s : State) : Out :=
  .next (bitTest 4 (.reg .d) s)

/-- `BIT 4,E` (R367). -/
def execBit4E (s : State) : Out :=
  .next (bitTest 4 (.reg .e) s)

/-- `BIT 4,H` (R367). -/
def execBit4H (s : State) : Out :=
  .next (bitTest 4 (.reg .h) s)

/-- `BIT 4,L` (R367). -/
def execBit4L (s : State) : Out :=
  .next (bitTest 4 (.reg .l) s)

/-- `BIT 4,(HL)` (R368). -/
def execBit4IndHl (s : State) : Out :=
  .next (bitTest 4 .hlInd s)

/-- `BIT 4,A` (R367). -/
def execBit4A (s : State) : Out :=
  .next (bitTest 4 (.reg .a) s)

/-- `BIT 5,B` (R367). -/
def execBit5B (s : State) : Out :=
  .next (bitTest 5 (.reg .b) s)

/-- `BIT 5,C` (R367). -/
def execBit5C (s : State) : Out :=
  .next (bitTest 5 (.reg .c) s)

/-- `BIT 5,D` (R367). -/
def execBit5D (s : State) : Out :=
  .next (bitTest 5 (.reg .d) s)

/-- `BIT 5,E` (R367). -/
def execBit5E (s : State) : Out :=
  .next (bitTest 5 (.reg .e) s)

/-- `BIT 5,H` (R367). -/
def execBit5H (s : State) : Out :=
  .next (bitTest 5 (.reg .h) s)

/-- `BIT 5,L` (R367). -/
def execBit5L (s : State) : Out :=
  .next (bitTest 5 (.reg .l) s)

/-- `BIT 5,(HL)` (R368). -/
def execBit5IndHl (s : State) : Out :=
  .next (bitTest 5 .hlInd s)

/-- `BIT 5,A` (R367). -/
def execBit5A (s : State) : Out :=
  .next (bitTest 5 (.reg .a) s)

/-- `BIT 6,B` (R367). -/
def execBit6B (s : State) : Out :=
  .next (bitTest 6 (.reg .b) s)

/-- `BIT 6,C` (R367). -/
def execBit6C (s : State) : Out :=
  .next (bitTest 6 (.reg .c) s)

/-- `BIT 6,D` (R367). -/
def execBit6D (s : State) : Out :=
  .next (bitTest 6 (.reg .d) s)

/-- `BIT 6,E` (R367). -/
def execBit6E (s : State) : Out :=
  .next (bitTest 6 (.reg .e) s)

/-- `BIT 6,H` (R367). -/
def execBit6H (s : State) : Out :=
  .next (bitTest 6 (.reg .h) s)

/-- `BIT 6,L` (R367). -/
def execBit6L (s : State) : Out :=
  .next (bitTest 6 (.reg .l) s)

/-- `BIT 6,(HL)` (R368). -/
def execBit6IndHl (s : State) : Out :=
  .next (bitTest 6 .hlInd s)

/-- `BIT 6,A` (R367). -/
def execBit6A (s : State) : Out :=
  .next (bitTest 6 (.reg .a) s)

/-- `BIT 7,B` (R367). -/
def execBit7B (s : State) : Out :=
  .next (bitTest 7 (.reg .b) s)

/-- `BIT 7,C` (R367). -/
def execBit7C (s : State) : Out :=
  .next (bitTest 7 (.reg .c) s)

/-- `BIT 7,D` (R367). -/
def execBit7D (s : State) : Out :=
  .next (bitTest 7 (.reg .d) s)

/-- `BIT 7,E` (R367). -/
def execBit7E (s : State) : Out :=
  .next (bitTest 7 (.reg .e) s)

/-- `BIT 7,H` (R367). -/
def execBit7H (s : State) : Out :=
  .next (bitTest 7 (.reg .h) s)

/-- `BIT 7,L` (R367). -/
def execBit7L (s : State) : Out :=
  .next (bitTest 7 (.reg .l) s)

/-- `BIT 7,(HL)` (R368). -/
def execBit7IndHl (s : State) : Out :=
  .next (bitTest 7 .hlInd s)

/-- `BIT 7,A` (R367). -/
def execBit7A (s : State) : Out :=
  .next (bitTest 7 (.reg .a) s)

/-- `RES 0,B` (R369). -/
def execRes0B (s : State) : Out :=
  .next (bitReset 0 (.reg .b) s)

/-- `RES 0,C` (R369). -/
def execRes0C (s : State) : Out :=
  .next (bitReset 0 (.reg .c) s)

/-- `RES 0,D` (R369). -/
def execRes0D (s : State) : Out :=
  .next (bitReset 0 (.reg .d) s)

/-- `RES 0,E` (R369). -/
def execRes0E (s : State) : Out :=
  .next (bitReset 0 (.reg .e) s)

/-- `RES 0,H` (R369). -/
def execRes0H (s : State) : Out :=
  .next (bitReset 0 (.reg .h) s)

/-- `RES 0,L` (R369). -/
def execRes0L (s : State) : Out :=
  .next (bitReset 0 (.reg .l) s)

/-- `RES 0,(HL)` (R370). -/
def execRes0IndHl (s : State) : Out :=
  .next (bitReset 0 .hlInd s)

/-- `RES 0,A` (R369). -/
def execRes0A (s : State) : Out :=
  .next (bitReset 0 (.reg .a) s)

/-- `RES 1,B` (R369). -/
def execRes1B (s : State) : Out :=
  .next (bitReset 1 (.reg .b) s)

/-- `RES 1,C` (R369). -/
def execRes1C (s : State) : Out :=
  .next (bitReset 1 (.reg .c) s)

/-- `RES 1,D` (R369). -/
def execRes1D (s : State) : Out :=
  .next (bitReset 1 (.reg .d) s)

/-- `RES 1,E` (R369). -/
def execRes1E (s : State) : Out :=
  .next (bitReset 1 (.reg .e) s)

/-- `RES 1,H` (R369). -/
def execRes1H (s : State) : Out :=
  .next (bitReset 1 (.reg .h) s)

/-- `RES 1,L` (R369). -/
def execRes1L (s : State) : Out :=
  .next (bitReset 1 (.reg .l) s)

/-- `RES 1,(HL)` (R370). -/
def execRes1IndHl (s : State) : Out :=
  .next (bitReset 1 .hlInd s)

/-- `RES 1,A` (R369). -/
def execRes1A (s : State) : Out :=
  .next (bitReset 1 (.reg .a) s)

/-- `RES 2,B` (R369). -/
def execRes2B (s : State) : Out :=
  .next (bitReset 2 (.reg .b) s)

/-- `RES 2,C` (R369). -/
def execRes2C (s : State) : Out :=
  .next (bitReset 2 (.reg .c) s)

/-- `RES 2,D` (R369). -/
def execRes2D (s : State) : Out :=
  .next (bitReset 2 (.reg .d) s)

/-- `RES 2,E` (R369). -/
def execRes2E (s : State) : Out :=
  .next (bitReset 2 (.reg .e) s)

/-- `RES 2,H` (R369). -/
def execRes2H (s : State) : Out :=
  .next (bitReset 2 (.reg .h) s)

/-- `RES 2,L` (R369). -/
def execRes2L (s : State) : Out :=
  .next (bitReset 2 (.reg .l) s)

/-- `RES 2,(HL)` (R370). -/
def execRes2IndHl (s : State) : Out :=
  .next (bitReset 2 .hlInd s)

/-- `RES 2,A` (R369). -/
def execRes2A (s : State) : Out :=
  .next (bitReset 2 (.reg .a) s)

/-- `RES 3,B` (R369). -/
def execRes3B (s : State) : Out :=
  .next (bitReset 3 (.reg .b) s)

/-- `RES 3,C` (R369). -/
def execRes3C (s : State) : Out :=
  .next (bitReset 3 (.reg .c) s)

/-- `RES 3,D` (R369). -/
def execRes3D (s : State) : Out :=
  .next (bitReset 3 (.reg .d) s)

/-- `RES 3,E` (R369). -/
def execRes3E (s : State) : Out :=
  .next (bitReset 3 (.reg .e) s)

/-- `RES 3,H` (R369). -/
def execRes3H (s : State) : Out :=
  .next (bitReset 3 (.reg .h) s)

/-- `RES 3,L` (R369). -/
def execRes3L (s : State) : Out :=
  .next (bitReset 3 (.reg .l) s)

/-- `RES 3,(HL)` (R370). -/
def execRes3IndHl (s : State) : Out :=
  .next (bitReset 3 .hlInd s)

/-- `RES 3,A` (R369). -/
def execRes3A (s : State) : Out :=
  .next (bitReset 3 (.reg .a) s)

/-- `RES 4,B` (R369). -/
def execRes4B (s : State) : Out :=
  .next (bitReset 4 (.reg .b) s)

/-- `RES 4,C` (R369). -/
def execRes4C (s : State) : Out :=
  .next (bitReset 4 (.reg .c) s)

/-- `RES 4,D` (R369). -/
def execRes4D (s : State) : Out :=
  .next (bitReset 4 (.reg .d) s)

/-- `RES 4,E` (R369). -/
def execRes4E (s : State) : Out :=
  .next (bitReset 4 (.reg .e) s)

/-- `RES 4,H` (R369). -/
def execRes4H (s : State) : Out :=
  .next (bitReset 4 (.reg .h) s)

/-- `RES 4,L` (R369). -/
def execRes4L (s : State) : Out :=
  .next (bitReset 4 (.reg .l) s)

/-- `RES 4,(HL)` (R370). -/
def execRes4IndHl (s : State) : Out :=
  .next (bitReset 4 .hlInd s)

/-- `RES 4,A` (R369). -/
def execRes4A (s : State) : Out :=
  .next (bitReset 4 (.reg .a) s)

/-- `RES 5,B` (R369). -/
def execRes5B (s : State) : Out :=
  .next (bitReset 5 (.reg .b) s)

/-- `RES 5,C` (R369). -/
def execRes5C (s : State) : Out :=
  .next (bitReset 5 (.reg .c) s)

/-- `RES 5,D` (R369). -/
def execRes5D (s : State) : Out :=
  .next (bitReset 5 (.reg .d) s)

/-- `RES 5,E` (R369). -/
def execRes5E (s : State) : Out :=
  .next (bitReset 5 (.reg .e) s)

/-- `RES 5,H` (R369). -/
def execRes5H (s : State) : Out :=
  .next (bitReset 5 (.reg .h) s)

/-- `RES 5,L` (R369). -/
def execRes5L (s : State) : Out :=
  .next (bitReset 5 (.reg .l) s)

/-- `RES 5,(HL)` (R370). -/
def execRes5IndHl (s : State) : Out :=
  .next (bitReset 5 .hlInd s)

/-- `RES 5,A` (R369). -/
def execRes5A (s : State) : Out :=
  .next (bitReset 5 (.reg .a) s)

/-- `RES 6,B` (R369). -/
def execRes6B (s : State) : Out :=
  .next (bitReset 6 (.reg .b) s)

/-- `RES 6,C` (R369). -/
def execRes6C (s : State) : Out :=
  .next (bitReset 6 (.reg .c) s)

/-- `RES 6,D` (R369). -/
def execRes6D (s : State) : Out :=
  .next (bitReset 6 (.reg .d) s)

/-- `RES 6,E` (R369). -/
def execRes6E (s : State) : Out :=
  .next (bitReset 6 (.reg .e) s)

/-- `RES 6,H` (R369). -/
def execRes6H (s : State) : Out :=
  .next (bitReset 6 (.reg .h) s)

/-- `RES 6,L` (R369). -/
def execRes6L (s : State) : Out :=
  .next (bitReset 6 (.reg .l) s)

/-- `RES 6,(HL)` (R370). -/
def execRes6IndHl (s : State) : Out :=
  .next (bitReset 6 .hlInd s)

/-- `RES 6,A` (R369). -/
def execRes6A (s : State) : Out :=
  .next (bitReset 6 (.reg .a) s)

/-- `RES 7,B` (R369). -/
def execRes7B (s : State) : Out :=
  .next (bitReset 7 (.reg .b) s)

/-- `RES 7,C` (R369). -/
def execRes7C (s : State) : Out :=
  .next (bitReset 7 (.reg .c) s)

/-- `RES 7,D` (R369). -/
def execRes7D (s : State) : Out :=
  .next (bitReset 7 (.reg .d) s)

/-- `RES 7,E` (R369). -/
def execRes7E (s : State) : Out :=
  .next (bitReset 7 (.reg .e) s)

/-- `RES 7,H` (R369). -/
def execRes7H (s : State) : Out :=
  .next (bitReset 7 (.reg .h) s)

/-- `RES 7,L` (R369). -/
def execRes7L (s : State) : Out :=
  .next (bitReset 7 (.reg .l) s)

/-- `RES 7,(HL)` (R370). -/
def execRes7IndHl (s : State) : Out :=
  .next (bitReset 7 .hlInd s)

/-- `RES 7,A` (R369). -/
def execRes7A (s : State) : Out :=
  .next (bitReset 7 (.reg .a) s)

/-- `SET 0,B` (R371). -/
def execSet0B (s : State) : Out :=
  .next (bitSet 0 (.reg .b) s)

/-- `SET 0,C` (R371). -/
def execSet0C (s : State) : Out :=
  .next (bitSet 0 (.reg .c) s)

/-- `SET 0,D` (R371). -/
def execSet0D (s : State) : Out :=
  .next (bitSet 0 (.reg .d) s)

/-- `SET 0,E` (R371). -/
def execSet0E (s : State) : Out :=
  .next (bitSet 0 (.reg .e) s)

/-- `SET 0,H` (R371). -/
def execSet0H (s : State) : Out :=
  .next (bitSet 0 (.reg .h) s)

/-- `SET 0,L` (R371). -/
def execSet0L (s : State) : Out :=
  .next (bitSet 0 (.reg .l) s)

/-- `SET 0,(HL)` (R372). -/
def execSet0IndHl (s : State) : Out :=
  .next (bitSet 0 .hlInd s)

/-- `SET 0,A` (R371). -/
def execSet0A (s : State) : Out :=
  .next (bitSet 0 (.reg .a) s)

/-- `SET 1,B` (R371). -/
def execSet1B (s : State) : Out :=
  .next (bitSet 1 (.reg .b) s)

/-- `SET 1,C` (R371). -/
def execSet1C (s : State) : Out :=
  .next (bitSet 1 (.reg .c) s)

/-- `SET 1,D` (R371). -/
def execSet1D (s : State) : Out :=
  .next (bitSet 1 (.reg .d) s)

/-- `SET 1,E` (R371). -/
def execSet1E (s : State) : Out :=
  .next (bitSet 1 (.reg .e) s)

/-- `SET 1,H` (R371). -/
def execSet1H (s : State) : Out :=
  .next (bitSet 1 (.reg .h) s)

/-- `SET 1,L` (R371). -/
def execSet1L (s : State) : Out :=
  .next (bitSet 1 (.reg .l) s)

/-- `SET 1,(HL)` (R372). -/
def execSet1IndHl (s : State) : Out :=
  .next (bitSet 1 .hlInd s)

/-- `SET 1,A` (R371). -/
def execSet1A (s : State) : Out :=
  .next (bitSet 1 (.reg .a) s)

/-- `SET 2,B` (R371). -/
def execSet2B (s : State) : Out :=
  .next (bitSet 2 (.reg .b) s)

/-- `SET 2,C` (R371). -/
def execSet2C (s : State) : Out :=
  .next (bitSet 2 (.reg .c) s)

/-- `SET 2,D` (R371). -/
def execSet2D (s : State) : Out :=
  .next (bitSet 2 (.reg .d) s)

/-- `SET 2,E` (R371). -/
def execSet2E (s : State) : Out :=
  .next (bitSet 2 (.reg .e) s)

/-- `SET 2,H` (R371). -/
def execSet2H (s : State) : Out :=
  .next (bitSet 2 (.reg .h) s)

/-- `SET 2,L` (R371). -/
def execSet2L (s : State) : Out :=
  .next (bitSet 2 (.reg .l) s)

/-- `SET 2,(HL)` (R372). -/
def execSet2IndHl (s : State) : Out :=
  .next (bitSet 2 .hlInd s)

/-- `SET 2,A` (R371). -/
def execSet2A (s : State) : Out :=
  .next (bitSet 2 (.reg .a) s)

/-- `SET 3,B` (R371). -/
def execSet3B (s : State) : Out :=
  .next (bitSet 3 (.reg .b) s)

/-- `SET 3,C` (R371). -/
def execSet3C (s : State) : Out :=
  .next (bitSet 3 (.reg .c) s)

/-- `SET 3,D` (R371). -/
def execSet3D (s : State) : Out :=
  .next (bitSet 3 (.reg .d) s)

/-- `SET 3,E` (R371). -/
def execSet3E (s : State) : Out :=
  .next (bitSet 3 (.reg .e) s)

/-- `SET 3,H` (R371). -/
def execSet3H (s : State) : Out :=
  .next (bitSet 3 (.reg .h) s)

/-- `SET 3,L` (R371). -/
def execSet3L (s : State) : Out :=
  .next (bitSet 3 (.reg .l) s)

/-- `SET 3,(HL)` (R372). -/
def execSet3IndHl (s : State) : Out :=
  .next (bitSet 3 .hlInd s)

/-- `SET 3,A` (R371). -/
def execSet3A (s : State) : Out :=
  .next (bitSet 3 (.reg .a) s)

/-- `SET 4,B` (R371). -/
def execSet4B (s : State) : Out :=
  .next (bitSet 4 (.reg .b) s)

/-- `SET 4,C` (R371). -/
def execSet4C (s : State) : Out :=
  .next (bitSet 4 (.reg .c) s)

/-- `SET 4,D` (R371). -/
def execSet4D (s : State) : Out :=
  .next (bitSet 4 (.reg .d) s)

/-- `SET 4,E` (R371). -/
def execSet4E (s : State) : Out :=
  .next (bitSet 4 (.reg .e) s)

/-- `SET 4,H` (R371). -/
def execSet4H (s : State) : Out :=
  .next (bitSet 4 (.reg .h) s)

/-- `SET 4,L` (R371). -/
def execSet4L (s : State) : Out :=
  .next (bitSet 4 (.reg .l) s)

/-- `SET 4,(HL)` (R372). -/
def execSet4IndHl (s : State) : Out :=
  .next (bitSet 4 .hlInd s)

/-- `SET 4,A` (R371). -/
def execSet4A (s : State) : Out :=
  .next (bitSet 4 (.reg .a) s)

/-- `SET 5,B` (R371). -/
def execSet5B (s : State) : Out :=
  .next (bitSet 5 (.reg .b) s)

/-- `SET 5,C` (R371). -/
def execSet5C (s : State) : Out :=
  .next (bitSet 5 (.reg .c) s)

/-- `SET 5,D` (R371). -/
def execSet5D (s : State) : Out :=
  .next (bitSet 5 (.reg .d) s)

/-- `SET 5,E` (R371). -/
def execSet5E (s : State) : Out :=
  .next (bitSet 5 (.reg .e) s)

/-- `SET 5,H` (R371). -/
def execSet5H (s : State) : Out :=
  .next (bitSet 5 (.reg .h) s)

/-- `SET 5,L` (R371). -/
def execSet5L (s : State) : Out :=
  .next (bitSet 5 (.reg .l) s)

/-- `SET 5,(HL)` (R372). -/
def execSet5IndHl (s : State) : Out :=
  .next (bitSet 5 .hlInd s)

/-- `SET 5,A` (R371). -/
def execSet5A (s : State) : Out :=
  .next (bitSet 5 (.reg .a) s)

/-- `SET 6,B` (R371). -/
def execSet6B (s : State) : Out :=
  .next (bitSet 6 (.reg .b) s)

/-- `SET 6,C` (R371). -/
def execSet6C (s : State) : Out :=
  .next (bitSet 6 (.reg .c) s)

/-- `SET 6,D` (R371). -/
def execSet6D (s : State) : Out :=
  .next (bitSet 6 (.reg .d) s)

/-- `SET 6,E` (R371). -/
def execSet6E (s : State) : Out :=
  .next (bitSet 6 (.reg .e) s)

/-- `SET 6,H` (R371). -/
def execSet6H (s : State) : Out :=
  .next (bitSet 6 (.reg .h) s)

/-- `SET 6,L` (R371). -/
def execSet6L (s : State) : Out :=
  .next (bitSet 6 (.reg .l) s)

/-- `SET 6,(HL)` (R372). -/
def execSet6IndHl (s : State) : Out :=
  .next (bitSet 6 .hlInd s)

/-- `SET 6,A` (R371). -/
def execSet6A (s : State) : Out :=
  .next (bitSet 6 (.reg .a) s)

/-- `SET 7,B` (R371). -/
def execSet7B (s : State) : Out :=
  .next (bitSet 7 (.reg .b) s)

/-- `SET 7,C` (R371). -/
def execSet7C (s : State) : Out :=
  .next (bitSet 7 (.reg .c) s)

/-- `SET 7,D` (R371). -/
def execSet7D (s : State) : Out :=
  .next (bitSet 7 (.reg .d) s)

/-- `SET 7,E` (R371). -/
def execSet7E (s : State) : Out :=
  .next (bitSet 7 (.reg .e) s)

/-- `SET 7,H` (R371). -/
def execSet7H (s : State) : Out :=
  .next (bitSet 7 (.reg .h) s)

/-- `SET 7,L` (R371). -/
def execSet7L (s : State) : Out :=
  .next (bitSet 7 (.reg .l) s)

/-- `SET 7,(HL)` (R372). -/
def execSet7IndHl (s : State) : Out :=
  .next (bitSet 7 .hlInd s)

/-- `SET 7,A` (R371). -/
def execSet7A (s : State) : Out :=
  .next (bitSet 7 (.reg .a) s)

/-! ### The escape byte -/

/-- The meanings of row 0x of the secondary map (R165). -/
def secondaryMeanings0 : List (State → Out) :=
  [execRlcB, execRlcC, execRlcD, execRlcE,
   execRlcH, execRlcL, execRlcIndHl, execRlcA,
   execRrcB, execRrcC, execRrcD, execRrcE,
   execRrcH, execRrcL, execRrcIndHl, execRrcA]

/-- The meanings of row 1x of the secondary map (R165). -/
def secondaryMeanings1 : List (State → Out) :=
  [execRlB, execRlC, execRlD, execRlE,
   execRlH, execRlL, execRlIndHl, execRlA,
   execRrB, execRrC, execRrD, execRrE,
   execRrH, execRrL, execRrIndHl, execRrA]

/-- The meanings of row 2x of the secondary map (R165). -/
def secondaryMeanings2 : List (State → Out) :=
  [execSlaB, execSlaC, execSlaD, execSlaE,
   execSlaH, execSlaL, execSlaIndHl, execSlaA,
   execSraB, execSraC, execSraD, execSraE,
   execSraH, execSraL, execSraIndHl, execSraA]

/-- The meanings of row 3x of the secondary map (R165). -/
def secondaryMeanings3 : List (State → Out) :=
  [execSwapB, execSwapC, execSwapD, execSwapE,
   execSwapH, execSwapL, execSwapIndHl, execSwapA,
   execSrlB, execSrlC, execSrlD, execSrlE,
   execSrlH, execSrlL, execSrlIndHl, execSrlA]

/-- The meanings of row 4x of the secondary map (R165). -/
def secondaryMeanings4 : List (State → Out) :=
  [execBit0B, execBit0C, execBit0D, execBit0E,
   execBit0H, execBit0L, execBit0IndHl, execBit0A,
   execBit1B, execBit1C, execBit1D, execBit1E,
   execBit1H, execBit1L, execBit1IndHl, execBit1A]

/-- The meanings of row 5x of the secondary map (R165). -/
def secondaryMeanings5 : List (State → Out) :=
  [execBit2B, execBit2C, execBit2D, execBit2E,
   execBit2H, execBit2L, execBit2IndHl, execBit2A,
   execBit3B, execBit3C, execBit3D, execBit3E,
   execBit3H, execBit3L, execBit3IndHl, execBit3A]

/-- The meanings of row 6x of the secondary map (R165). -/
def secondaryMeanings6 : List (State → Out) :=
  [execBit4B, execBit4C, execBit4D, execBit4E,
   execBit4H, execBit4L, execBit4IndHl, execBit4A,
   execBit5B, execBit5C, execBit5D, execBit5E,
   execBit5H, execBit5L, execBit5IndHl, execBit5A]

/-- The meanings of row 7x of the secondary map (R165). -/
def secondaryMeanings7 : List (State → Out) :=
  [execBit6B, execBit6C, execBit6D, execBit6E,
   execBit6H, execBit6L, execBit6IndHl, execBit6A,
   execBit7B, execBit7C, execBit7D, execBit7E,
   execBit7H, execBit7L, execBit7IndHl, execBit7A]

/-- The meanings of row 8x of the secondary map (R165). -/
def secondaryMeanings8 : List (State → Out) :=
  [execRes0B, execRes0C, execRes0D, execRes0E,
   execRes0H, execRes0L, execRes0IndHl, execRes0A,
   execRes1B, execRes1C, execRes1D, execRes1E,
   execRes1H, execRes1L, execRes1IndHl, execRes1A]

/-- The meanings of row 9x of the secondary map (R165). -/
def secondaryMeanings9 : List (State → Out) :=
  [execRes2B, execRes2C, execRes2D, execRes2E,
   execRes2H, execRes2L, execRes2IndHl, execRes2A,
   execRes3B, execRes3C, execRes3D, execRes3E,
   execRes3H, execRes3L, execRes3IndHl, execRes3A]

/-- The meanings of row Ax of the secondary map (R165). -/
def secondaryMeaningsA : List (State → Out) :=
  [execRes4B, execRes4C, execRes4D, execRes4E,
   execRes4H, execRes4L, execRes4IndHl, execRes4A,
   execRes5B, execRes5C, execRes5D, execRes5E,
   execRes5H, execRes5L, execRes5IndHl, execRes5A]

/-- The meanings of row Bx of the secondary map (R165). -/
def secondaryMeaningsB : List (State → Out) :=
  [execRes6B, execRes6C, execRes6D, execRes6E,
   execRes6H, execRes6L, execRes6IndHl, execRes6A,
   execRes7B, execRes7C, execRes7D, execRes7E,
   execRes7H, execRes7L, execRes7IndHl, execRes7A]

/-- The meanings of row Cx of the secondary map (R165). -/
def secondaryMeaningsC : List (State → Out) :=
  [execSet0B, execSet0C, execSet0D, execSet0E,
   execSet0H, execSet0L, execSet0IndHl, execSet0A,
   execSet1B, execSet1C, execSet1D, execSet1E,
   execSet1H, execSet1L, execSet1IndHl, execSet1A]

/-- The meanings of row Dx of the secondary map (R165). -/
def secondaryMeaningsD : List (State → Out) :=
  [execSet2B, execSet2C, execSet2D, execSet2E,
   execSet2H, execSet2L, execSet2IndHl, execSet2A,
   execSet3B, execSet3C, execSet3D, execSet3E,
   execSet3H, execSet3L, execSet3IndHl, execSet3A]

/-- The meanings of row Ex of the secondary map (R165). -/
def secondaryMeaningsE : List (State → Out) :=
  [execSet4B, execSet4C, execSet4D, execSet4E,
   execSet4H, execSet4L, execSet4IndHl, execSet4A,
   execSet5B, execSet5C, execSet5D, execSet5E,
   execSet5H, execSet5L, execSet5IndHl, execSet5A]

/-- The meanings of row Fx of the secondary map (R165). -/
def secondaryMeaningsF : List (State → Out) :=
  [execSet6B, execSet6C, execSet6D, execSet6E,
   execSet6H, execSet6L, execSet6IndHl, execSet6A,
   execSet7B, execSet7C, execSet7D, execSet7E,
   execSet7H, execSet7L, execSet7IndHl, execSet7A]

/-- The meanings of the secondary map: entry `b` is that of row `0xCB b`. -/
def secondaryMeanings : List (State → Out) :=
  secondaryMeanings0 ++ secondaryMeanings1 ++ secondaryMeanings2 ++ secondaryMeanings3 ++
  secondaryMeanings4 ++ secondaryMeanings5 ++ secondaryMeanings6 ++ secondaryMeanings7 ++
  secondaryMeanings8 ++ secondaryMeanings9 ++ secondaryMeaningsA ++ secondaryMeaningsB ++
  secondaryMeaningsC ++ secondaryMeaningsD ++ secondaryMeaningsE ++ secondaryMeaningsF

/-- `PREFIX CB` (R336): `b <- Fetch8(); execute the rule of row 0xCB b`. `step` fetches both bytes of a secondary instruction
together and runs its row directly; this is the meaning of the escape row by itself. -/
def execPrefixCb (s : State) : Out :=
  let b := fetch8 s
  (secondaryMeanings.getD b.1.toNat Host.Outcome.next) b.2

end Sys2Proof.Machine
end

