-- ==== Sys2Proof/Machine/Control.lean ====
section
/-!
DEFINITION. Control transfer (43_control.md). The shared operations first, then one meaning per row.
A meaning starts after the instruction's bytes have been fetched, so PC is the address after the instruction (R27).
-/

namespace Sys2Proof.Machine

/-- `JP a16` (R301). -/
def jump (a : Word) (s : State) : State := s.tick.setPc a

/-- `JP cc,a16` (R302). -/
def jumpIf (cc : Cond) (a : Word) (s : State) : State := if s.cond cc then jump a s else s

/-- `JR e8` (R304). -/
def jumpRel (e : Byte) (s : State) : State :=
  let s := s.tick
  s.setPc (s.regs.pc + sext16 e)

/-- `JR cc,e8` (R305). -/
def jumpRelIf (cc : Cond) (e : Byte) (s : State) : State := if s.cond cc then jumpRel e s else s

/-- `CALL a16` (R306). -/
def call (a : Word) (s : State) : State :=
  let s := s.tick
  (push16 s.regs.pc s).setPc a

/-- `CALL cc,a16` (R307). -/
def callIf (cc : Cond) (a : Word) (s : State) : State := if s.cond cc then call a s else s

/-- `RET` (R308). -/
def ret (s : State) : State :=
  let r := pop16 s
  r.2.tick.setPc r.1

/-- `RET cc` (R309): one internal cycle before the condition. -/
def retIf (cc : Cond) (s : State) : State :=
  let s := s.tick
  if s.cond cc then ret s else s

/-- `RST n` (R312). -/
def restart (n : Word) (s : State) : State :=
  let s := s.tick
  (push16 s.regs.pc s).setPc n

/-! ### The rows -/

/-- `JR e8` (R304). -/
def execJrE8 (e : Byte) (s : State) : Out :=
  .next (jumpRel e s)

/-- `JR NZ,e8` (R305). -/
def execJrNzE8 (e : Byte) (s : State) : Out :=
  .next (jumpRelIf .nz e s)

/-- `JR Z,e8` (R305). -/
def execJrZE8 (e : Byte) (s : State) : Out :=
  .next (jumpRelIf .z e s)

/-- `JR NC,e8` (R305). -/
def execJrNcE8 (e : Byte) (s : State) : Out :=
  .next (jumpRelIf .nc e s)

/-- `JR C,e8` (R305). -/
def execJrCE8 (e : Byte) (s : State) : Out :=
  .next (jumpRelIf .c e s)

/-- `RET NZ` (R309). -/
def execRetNz (s : State) : Out :=
  .next (retIf .nz s)

/-- `JP NZ,a16` (R302). -/
def execJpNzA16 (a : Word) (s : State) : Out :=
  .next (jumpIf .nz a s)

/-- `JP a16` (R301). -/
def execJpA16 (a : Word) (s : State) : Out :=
  .next (jump a s)

/-- `CALL NZ,a16` (R307). -/
def execCallNzA16 (a : Word) (s : State) : Out :=
  .next (callIf .nz a s)

/-- `RST 00h` (R312). -/
def execRst00 (s : State) : Out :=
  .next (restart 0x00#16 s)

/-- `RET Z` (R309). -/
def execRetZ (s : State) : Out :=
  .next (retIf .z s)

/-- `RET` (R308). -/
def execRet (s : State) : Out :=
  .next (ret s)

/-- `JP Z,a16` (R302). -/
def execJpZA16 (a : Word) (s : State) : Out :=
  .next (jumpIf .z a s)

/-- `CALL Z,a16` (R307). -/
def execCallZA16 (a : Word) (s : State) : Out :=
  .next (callIf .z a s)

/-- `CALL a16` (R306). -/
def execCallA16 (a : Word) (s : State) : Out :=
  .next (call a s)

/-- `RST 08h` (R312). -/
def execRst08 (s : State) : Out :=
  .next (restart 0x08#16 s)

/-- `RET NC` (R309). -/
def execRetNc (s : State) : Out :=
  .next (retIf .nc s)

/-- `JP NC,a16` (R302). -/
def execJpNcA16 (a : Word) (s : State) : Out :=
  .next (jumpIf .nc a s)

/-- `CALL NC,a16` (R307). -/
def execCallNcA16 (a : Word) (s : State) : Out :=
  .next (callIf .nc a s)

/-- `RST 10h` (R312). -/
def execRst10 (s : State) : Out :=
  .next (restart 0x10#16 s)

/-- `RET C` (R309). -/
def execRetC (s : State) : Out :=
  .next (retIf .c s)

/-- `RETI` (R310). -/
def execReti (s : State) : Out :=
  .next (returnFromInterrupt s)

/-- `JP C,a16` (R302). -/
def execJpCA16 (a : Word) (s : State) : Out :=
  .next (jumpIf .c a s)

/-- `CALL C,a16` (R307). -/
def execCallCA16 (a : Word) (s : State) : Out :=
  .next (callIf .c a s)

/-- `RST 18h` (R312). -/
def execRst18 (s : State) : Out :=
  .next (restart 0x18#16 s)

/-- `RST 20h` (R312). -/
def execRst20 (s : State) : Out :=
  .next (restart 0x20#16 s)

/-- `JP HL` (R303). -/
def execJpHl (s : State) : Out :=
  .next (s.setPc (s.pair .hl))

/-- `RST 28h` (R312). -/
def execRst28 (s : State) : Out :=
  .next (restart 0x28#16 s)

/-- `RST 30h` (R312). -/
def execRst30 (s : State) : Out :=
  .next (restart 0x30#16 s)

/-- `RST 38h` (R312). -/
def execRst38 (s : State) : Out :=
  .next (restart 0x38#16 s)

end Sys2Proof.Machine
end

