-- ==== Sys2Proof/Machine/Load.lean ====
section
/-!
DEFINITION. Loads, stores and stack transfers (40_load.md). The shared operations first, then one meaning per row.
A meaning starts after the instruction's bytes have been fetched: PC is past them and their cycles are charged.
-/

namespace Sys2Proof.Machine

/-- `x[r] <- MemRead(a, 1)` (R202, R205, R206, R209, R211, R213). -/
def loadReg (r : R8) (a : Word) (s : State) : State :=
  let m := memRead a s
  m.2.setReg r m.1

/-- `MemWrite(a, 1, v)` (R203, R204). -/
def storeByte (a : Word) (v : Byte) (s : State) : State := memWrite a v s

/-- `MemWrite(a, 1, x[A])` (R207, R208, R210, R212, R214). -/
def storeA (a : Word) (s : State) : State := memWrite a s.regs.a s

/-- `x[A] <- MemRead(x[HL], 1); x[HL] <- x[HL] + step` (R215, R216), `step` being 1 or -1. -/
def loadAHlStep (step : Word) (s : State) : State :=
  let s := loadReg .a (s.pair .hl) s
  s.setPair .hl (s.pair .hl + step)

/-- `MemWrite(x[HL], 1, x[A]); x[HL] <- x[HL] + step` (R217, R218). -/
def storeAHlStep (step : Word) (s : State) : State :=
  let s := storeA (s.pair .hl) s
  s.setPair .hl (s.pair .hl + step)

/-- `LD (a16),SP` (R221): the low byte at `a`, the high byte at `a + 1`. -/
def storeSp (a : Word) (s : State) : State :=
  let s := memWrite a (loByte s.regs.sp) s
  memWrite (a + 1) (hiByte s.regs.sp) s

/-- `LD SP,HL` (R222). -/
def loadSpHl (s : State) : State :=
  let s := s.tick
  s.setPair .sp (s.pair .hl)

/-- `LD HL,SP+e8` (R223). -/
def loadHlSp (e : Byte) (s : State) : State :=
  let o := spPlusE8 s.regs.sp e
  let s := s.tick
  (s.setPair .hl o.val).setFlags false false o.h o.c

/-- `PUSH rr` (R224). -/
def push (p : RStk) (s : State) : State :=
  let s := s.tick
  push16 (s.stkPair p) s

/-- `POP rr` (R225, R226). -/
def pop (p : RStk) (s : State) : State :=
  let r := pop16 s
  r.2.setStkPair p r.1

/-! ### The rows -/

/-- `LD BC,d16` (R220). -/
def execLdBcD16 (d : Word) (s : State) : Out :=
  .next (s.setPair .bc d)

/-- `LD (BC),A` (R207). -/
def execLdIndBcA (s : State) : Out :=
  .next (storeA (s.pair .bc) s)

/-- `LD B,d8` (R201). -/
def execLdBD8 (d : Byte) (s : State) : Out :=
  .next (s.setReg .b d)

/-- `LD (a16),SP` (R221). -/
def execLdIndA16Sp (a : Word) (s : State) : Out :=
  .next (storeSp a s)

/-- `LD A,(BC)` (R205). -/
def execLdAIndBc (s : State) : Out :=
  .next (loadReg .a (s.pair .bc) s)

/-- `LD C,d8` (R201). -/
def execLdCD8 (d : Byte) (s : State) : Out :=
  .next (s.setReg .c d)

/-- `LD DE,d16` (R220). -/
def execLdDeD16 (d : Word) (s : State) : Out :=
  .next (s.setPair .de d)

/-- `LD (DE),A` (R208). -/
def execLdIndDeA (s : State) : Out :=
  .next (storeA (s.pair .de) s)

/-- `LD D,d8` (R201). -/
def execLdDD8 (d : Byte) (s : State) : Out :=
  .next (s.setReg .d d)

/-- `LD A,(DE)` (R206). -/
def execLdAIndDe (s : State) : Out :=
  .next (loadReg .a (s.pair .de) s)

/-- `LD E,d8` (R201). -/
def execLdED8 (d : Byte) (s : State) : Out :=
  .next (s.setReg .e d)

/-- `LD HL,d16` (R220). -/
def execLdHlD16 (d : Word) (s : State) : Out :=
  .next (s.setPair .hl d)

/-- `LD (HL+),A` (R217). -/
def execLdIndHlIncA (s : State) : Out :=
  .next (storeAHlStep 1 s)

/-- `LD H,d8` (R201). -/
def execLdHD8 (d : Byte) (s : State) : Out :=
  .next (s.setReg .h d)

/-- `LD A,(HL+)` (R215). -/
def execLdAIndHlInc (s : State) : Out :=
  .next (loadAHlStep 1 s)

/-- `LD L,d8` (R201). -/
def execLdLD8 (d : Byte) (s : State) : Out :=
  .next (s.setReg .l d)

/-- `LD SP,d16` (R220). -/
def execLdSpD16 (d : Word) (s : State) : Out :=
  .next (s.setPair .sp d)

/-- `LD (HL-),A` (R218). -/
def execLdIndHlDecA (s : State) : Out :=
  .next (storeAHlStep (-1) s)

/-- `LD (HL),d8` (R204). -/
def execLdIndHlD8 (d : Byte) (s : State) : Out :=
  .next (storeByte (s.pair .hl) d s)

/-- `LD A,(HL-)` (R216). -/
def execLdAIndHlDec (s : State) : Out :=
  .next (loadAHlStep (-1) s)

/-- `LD A,d8` (R201). -/
def execLdAD8 (d : Byte) (s : State) : Out :=
  .next (s.setReg .a d)

/-- `LD B,B` (R200). -/
def execLdBB (s : State) : Out :=
  .next (s.setReg .b (s.reg .b))

/-- `LD B,C` (R200). -/
def execLdBC (s : State) : Out :=
  .next (s.setReg .b (s.reg .c))

/-- `LD B,D` (R200). -/
def execLdBD (s : State) : Out :=
  .next (s.setReg .b (s.reg .d))

/-- `LD B,E` (R200). -/
def execLdBE (s : State) : Out :=
  .next (s.setReg .b (s.reg .e))

/-- `LD B,H` (R200). -/
def execLdBH (s : State) : Out :=
  .next (s.setReg .b (s.reg .h))

/-- `LD B,L` (R200). -/
def execLdBL (s : State) : Out :=
  .next (s.setReg .b (s.reg .l))

/-- `LD B,(HL)` (R202). -/
def execLdBIndHl (s : State) : Out :=
  .next (loadReg .b (s.pair .hl) s)

/-- `LD B,A` (R200). -/
def execLdBA (s : State) : Out :=
  .next (s.setReg .b (s.reg .a))

/-- `LD C,B` (R200). -/
def execLdCB (s : State) : Out :=
  .next (s.setReg .c (s.reg .b))

/-- `LD C,C` (R200). -/
def execLdCC (s : State) : Out :=
  .next (s.setReg .c (s.reg .c))

/-- `LD C,D` (R200). -/
def execLdCD (s : State) : Out :=
  .next (s.setReg .c (s.reg .d))

/-- `LD C,E` (R200). -/
def execLdCE (s : State) : Out :=
  .next (s.setReg .c (s.reg .e))

/-- `LD C,H` (R200). -/
def execLdCH (s : State) : Out :=
  .next (s.setReg .c (s.reg .h))

/-- `LD C,L` (R200). -/
def execLdCL (s : State) : Out :=
  .next (s.setReg .c (s.reg .l))

/-- `LD C,(HL)` (R202). -/
def execLdCIndHl (s : State) : Out :=
  .next (loadReg .c (s.pair .hl) s)

/-- `LD C,A` (R200). -/
def execLdCA (s : State) : Out :=
  .next (s.setReg .c (s.reg .a))

/-- `LD D,B` (R200). -/
def execLdDB (s : State) : Out :=
  .next (s.setReg .d (s.reg .b))

/-- `LD D,C` (R200). -/
def execLdDC (s : State) : Out :=
  .next (s.setReg .d (s.reg .c))

/-- `LD D,D` (R200). -/
def execLdDD (s : State) : Out :=
  .next (s.setReg .d (s.reg .d))

/-- `LD D,E` (R200). -/
def execLdDE (s : State) : Out :=
  .next (s.setReg .d (s.reg .e))

/-- `LD D,H` (R200). -/
def execLdDH (s : State) : Out :=
  .next (s.setReg .d (s.reg .h))

/-- `LD D,L` (R200). -/
def execLdDL (s : State) : Out :=
  .next (s.setReg .d (s.reg .l))

/-- `LD D,(HL)` (R202). -/
def execLdDIndHl (s : State) : Out :=
  .next (loadReg .d (s.pair .hl) s)

/-- `LD D,A` (R200). -/
def execLdDA (s : State) : Out :=
  .next (s.setReg .d (s.reg .a))

/-- `LD E,B` (R200). -/
def execLdEB (s : State) : Out :=
  .next (s.setReg .e (s.reg .b))

/-- `LD E,C` (R200). -/
def execLdEC (s : State) : Out :=
  .next (s.setReg .e (s.reg .c))

/-- `LD E,D` (R200). -/
def execLdED (s : State) : Out :=
  .next (s.setReg .e (s.reg .d))

/-- `LD E,E` (R200). -/
def execLdEE (s : State) : Out :=
  .next (s.setReg .e (s.reg .e))

/-- `LD E,H` (R200). -/
def execLdEH (s : State) : Out :=
  .next (s.setReg .e (s.reg .h))

/-- `LD E,L` (R200). -/
def execLdEL (s : State) : Out :=
  .next (s.setReg .e (s.reg .l))

/-- `LD E,(HL)` (R202). -/
def execLdEIndHl (s : State) : Out :=
  .next (loadReg .e (s.pair .hl) s)

/-- `LD E,A` (R200). -/
def execLdEA (s : State) : Out :=
  .next (s.setReg .e (s.reg .a))

/-- `LD H,B` (R200). -/
def execLdHB (s : State) : Out :=
  .next (s.setReg .h (s.reg .b))

/-- `LD H,C` (R200). -/
def execLdHC (s : State) : Out :=
  .next (s.setReg .h (s.reg .c))

/-- `LD H,D` (R200). -/
def execLdHD (s : State) : Out :=
  .next (s.setReg .h (s.reg .d))

/-- `LD H,E` (R200). -/
def execLdHE (s : State) : Out :=
  .next (s.setReg .h (s.reg .e))

/-- `LD H,H` (R200). -/
def execLdHH (s : State) : Out :=
  .next (s.setReg .h (s.reg .h))

/-- `LD H,L` (R200). -/
def execLdHL (s : State) : Out :=
  .next (s.setReg .h (s.reg .l))

/-- `LD H,(HL)` (R202). -/
def execLdHIndHl (s : State) : Out :=
  .next (loadReg .h (s.pair .hl) s)

/-- `LD H,A` (R200). -/
def execLdHA (s : State) : Out :=
  .next (s.setReg .h (s.reg .a))

/-- `LD L,B` (R200). -/
def execLdLB (s : State) : Out :=
  .next (s.setReg .l (s.reg .b))

/-- `LD L,C` (R200). -/
def execLdLC (s : State) : Out :=
  .next (s.setReg .l (s.reg .c))

/-- `LD L,D` (R200). -/
def execLdLD (s : State) : Out :=
  .next (s.setReg .l (s.reg .d))

/-- `LD L,E` (R200). -/
def execLdLE (s : State) : Out :=
  .next (s.setReg .l (s.reg .e))

/-- `LD L,H` (R200). -/
def execLdLH (s : State) : Out :=
  .next (s.setReg .l (s.reg .h))

/-- `LD L,L` (R200). -/
def execLdLL (s : State) : Out :=
  .next (s.setReg .l (s.reg .l))

/-- `LD L,(HL)` (R202). -/
def execLdLIndHl (s : State) : Out :=
  .next (loadReg .l (s.pair .hl) s)

/-- `LD L,A` (R200). -/
def execLdLA (s : State) : Out :=
  .next (s.setReg .l (s.reg .a))

/-- `LD (HL),B` (R203). -/
def execLdIndHlB (s : State) : Out :=
  .next (storeByte (s.pair .hl) (s.reg .b) s)

/-- `LD (HL),C` (R203). -/
def execLdIndHlC (s : State) : Out :=
  .next (storeByte (s.pair .hl) (s.reg .c) s)

/-- `LD (HL),D` (R203). -/
def execLdIndHlD (s : State) : Out :=
  .next (storeByte (s.pair .hl) (s.reg .d) s)

/-- `LD (HL),E` (R203). -/
def execLdIndHlE (s : State) : Out :=
  .next (storeByte (s.pair .hl) (s.reg .e) s)

/-- `LD (HL),H` (R203). -/
def execLdIndHlH (s : State) : Out :=
  .next (storeByte (s.pair .hl) (s.reg .h) s)

/-- `LD (HL),L` (R203). -/
def execLdIndHlL (s : State) : Out :=
  .next (storeByte (s.pair .hl) (s.reg .l) s)

/-- `LD (HL),A` (R203). -/
def execLdIndHlA (s : State) : Out :=
  .next (storeByte (s.pair .hl) (s.reg .a) s)

/-- `LD A,B` (R200). -/
def execLdAB (s : State) : Out :=
  .next (s.setReg .a (s.reg .b))

/-- `LD A,C` (R200). -/
def execLdAC (s : State) : Out :=
  .next (s.setReg .a (s.reg .c))

/-- `LD A,D` (R200). -/
def execLdAD (s : State) : Out :=
  .next (s.setReg .a (s.reg .d))

/-- `LD A,E` (R200). -/
def execLdAE (s : State) : Out :=
  .next (s.setReg .a (s.reg .e))

/-- `LD A,H` (R200). -/
def execLdAH (s : State) : Out :=
  .next (s.setReg .a (s.reg .h))

/-- `LD A,L` (R200). -/
def execLdAL (s : State) : Out :=
  .next (s.setReg .a (s.reg .l))

/-- `LD A,(HL)` (R202). -/
def execLdAIndHl (s : State) : Out :=
  .next (loadReg .a (s.pair .hl) s)

/-- `LD A,A` (R200). -/
def execLdAA (s : State) : Out :=
  .next (s.setReg .a (s.reg .a))

/-- `POP BC` (R225). -/
def execPopBc (s : State) : Out :=
  .next (pop .bc s)

/-- `PUSH BC` (R224). -/
def execPushBc (s : State) : Out :=
  .next (push .bc s)

/-- `POP DE` (R225). -/
def execPopDe (s : State) : Out :=
  .next (pop .de s)

/-- `PUSH DE` (R224). -/
def execPushDe (s : State) : Out :=
  .next (push .de s)

/-- `LDH (a8),A` (R214). -/
def execLdhIndA8A (n : Byte) (s : State) : Out :=
  .next (storeA (ioPage n) s)

/-- `POP HL` (R225). -/
def execPopHl (s : State) : Out :=
  .next (pop .hl s)

/-- `LDH (C),A` (R212). -/
def execLdhIndCA (s : State) : Out :=
  .next (storeA (ioPage (s.reg .c)) s)

/-- `PUSH HL` (R224). -/
def execPushHl (s : State) : Out :=
  .next (push .hl s)

/-- `LD (a16),A` (R210). -/
def execLdIndA16A (a : Word) (s : State) : Out :=
  .next (storeA a s)

/-- `LDH A,(a8)` (R213). -/
def execLdhAIndA8 (n : Byte) (s : State) : Out :=
  .next (loadReg .a (ioPage n) s)

/-- `POP AF` (R226). -/
def execPopAf (s : State) : Out :=
  .next (pop .af s)

/-- `LDH A,(C)` (R211). -/
def execLdhAIndC (s : State) : Out :=
  .next (loadReg .a (ioPage (s.reg .c)) s)

/-- `PUSH AF` (R224). -/
def execPushAf (s : State) : Out :=
  .next (push .af s)

/-- `LD HL,SP+e8` (R223). -/
def execLdHlSpE8 (e : Byte) (s : State) : Out :=
  .next (loadHlSp e s)

/-- `LD SP,HL` (R222). -/
def execLdSpHl (s : State) : Out :=
  .next (loadSpHl s)

/-- `LD A,(a16)` (R209). -/
def execLdAIndA16 (a : Word) (s : State) : Out :=
  .next (loadReg .a a s)

end Sys2Proof.Machine
end

