-- ==== Sys2Proof/Machine/System.lean ====
section
/-!
DEFINITION. System instructions, halt and undefined opcodes (44_system.md). The shared operations first, then one meaning per row.
A meaning starts after the instruction's bytes have been fetched; `opPc` is the address its opcode was read from (R150).
-/

namespace Sys2Proof.Machine

/-- `HALT` (R331): Bug when IME = 0 and a request is pending, else On. -/
def halt (s : State) : State := { s with halt := if !s.ime && s.pending then .bug else .on }

/-- `STOP` (R332): the fault of `STOP_MODE = fault`, or one more byte fetched and discarded. -/
def stop (s : State) : State :=
  match s.params.stopMode with
  | .fault => raiseFault (.unmodelled 0x10 s.opPc) s
  | .nop2 => (fetch8 s).2

/-- `DI` (R333). -/
def disableInterrupts (s : State) : State := { s with ime := false, imeState := .stable }

/-- `EI` (R334). -/
def enableInterrupts (s : State) : State :=
  if !s.ime && s.imeState == .stable then { s with imeState := .enableRequested } else s

/-- An undefined opcode (R335): the sticky fault, with the opcode and the address it was read from. -/
def raiseIllegal (op : Byte) (s : State) : State := raiseFault (.illegalOpcode op s.opPc) s

/-! ### The rows -/

/-- `NOP` (R330). -/
def execNop (s : State) : Out :=
  .next s

/-- `STOP` (R332). -/
def execStop (s : State) : Out :=
  .next (stop s)

/-- `HALT` (R331). -/
def execHalt (s : State) : Out :=
  .next (halt s)

/-- `ILLEGAL_D3` (R335). -/
def execIllegalD3 (s : State) : Out :=
  .next (raiseIllegal 0xD3#8 s)

/-- `ILLEGAL_DB` (R335). -/
def execIllegalDB (s : State) : Out :=
  .next (raiseIllegal 0xDB#8 s)

/-- `ILLEGAL_DD` (R335). -/
def execIllegalDD (s : State) : Out :=
  .next (raiseIllegal 0xDD#8 s)

/-- `ILLEGAL_E3` (R335). -/
def execIllegalE3 (s : State) : Out :=
  .next (raiseIllegal 0xE3#8 s)

/-- `ILLEGAL_E4` (R335). -/
def execIllegalE4 (s : State) : Out :=
  .next (raiseIllegal 0xE4#8 s)

/-- `ILLEGAL_EB` (R335). -/
def execIllegalEB (s : State) : Out :=
  .next (raiseIllegal 0xEB#8 s)

/-- `ILLEGAL_EC` (R335). -/
def execIllegalEC (s : State) : Out :=
  .next (raiseIllegal 0xEC#8 s)

/-- `ILLEGAL_ED` (R335). -/
def execIllegalED (s : State) : Out :=
  .next (raiseIllegal 0xED#8 s)

/-- `DI` (R333). -/
def execDi (s : State) : Out :=
  .next (disableInterrupts s)

/-- `ILLEGAL_F4` (R335). -/
def execIllegalF4 (s : State) : Out :=
  .next (raiseIllegal 0xF4#8 s)

/-- `EI` (R334). -/
def execEi (s : State) : Out :=
  .next (enableInterrupts s)

/-- `ILLEGAL_FC` (R335). -/
def execIllegalFC (s : State) : Out :=
  .next (raiseIllegal 0xFC#8 s)

/-- `ILLEGAL_FD` (R335). -/
def execIllegalFD (s : State) : Out :=
  .next (raiseIllegal 0xFD#8 s)

end Sys2Proof.Machine
end

