-- ==== Sys2Proof/Machine/Loop.lean ====
section
/-!
DEFINITION. The step loop of 60_exceptions.md R400: fetching an instruction's bytes (30_encoding.md R150-R153), executing it, the
latency advance, and placing an instruction where the next step fetches it.
-/

namespace Sys2Proof.Machine

/-- `n` operand bytes, each by `Fetch8()` (R151, R152). -/
def fetchOperands : Nat → State → List Byte × State
  | 0, s => ([], s)
  | n + 1, s =>
    let b := fetch8 s
    let r := fetchOperands n b.2
    (b.1 :: r.1, r.2)

/-- The bytes of the next instruction: `FetchOp()`, then the operand bytes its first byte calls for (R153). Every rule of files
40-45 fetches its operand bytes before any other effect, so they can be fetched before the meaning runs. -/
def fetchBytes (s : State) : List Byte × State :=
  let op := fetchOp s
  let r := fetchOperands (operandCount op.1) op.2
  (op.1 :: r.1, r.2)

/-- What follows an instruction in its step: `AdvanceIME()` (R406), unless it raised a fault (R403). -/
def finishStep (o : Out) : Out :=
  match o with
  | .next s => .next (if s.fault = none then advanceIme s else s)
  | .fault r => .fault r
  | .refused r => .refused r

/-- Step (c) and (d) of R400: fetch, decode, execute, advance the latency. -/
def fetchExecute (s : State) : Out :=
  let f := fetchBytes s
  match decode f.1 with
  | .ok (i, _) => finishStep (exec i f.2)
  | .error _ => .refused .undecodable

/-- The state step (b) sees: the cycle count cleared and the interrupt check done (R400). -/
def beginStep (s : State) : State := checkInterrupts { s with stepCycles := 0 }

/-- `Step()` (R400). With a fault recorded no step exists (R403). -/
def stepLoop (s : State) : Out :=
  match s.fault with
  | some r => .fault r
  | none =>
    if (beginStep s).halt = .on then .next (beginStep s).tick
    else fetchExecute (beginStep s)

/-- Store one byte where a fetch at `a` reads it. An address that is no storage of the block is left alone. -/
def placeByte (a : Word) (v : Byte) (s : State) : State :=
  match storageKey a with
  | some k => { s with mem := s.mem.write k v }
  | none => s

/-- Store bytes at successive addresses, wrapping (R106). -/
def placeBytes : Word → List Byte → State → State
  | _, [], s => s
  | a, v :: vs, s => placeBytes (a + 1) vs (placeByte a v s)

/-- Store an instruction's bytes, zero-filled to three, where the next step fetches: at PC, or at the handler when the next
step's check dispatches (R402, R425). -/
def placeInstruction (bytes : List Byte) (s : State) : State :=
  placeBytes (beginStep s).regs.pc [bytes.getD 0 0, bytes.getD 1 0, bytes.getD 2 0] s

end Sys2Proof.Machine
end

