-- ==== Sys2Proof/Machine/Step.lean ====
section
/-!
DEFINITION. One step of the machine, and placing an instruction for the next step to run.
-/

namespace Sys2Proof.Machine

/-- `Step()` of 60_exceptions.md R400. -/
def step (s : State) : Host.Outcome State Fault Refusal := stepLoop s

/-- `s` with the instruction whose table bits are `w` stored where the next step fetches (log entry 7). -/
def State.withFetchWord (s : State) (nbits w : Nat) : State := placeInstruction (tableBytes nbits w) s

end Sys2Proof.Machine
end

