-- ==== Sys2Proof/Machine/Run.lean ====
section
/-!
DEFINITION. The host's entry points (60_exceptions.md §9, 70_reset_and_hazards.md R503): `Run(N)`, input injection, `Reset`.
-/

namespace Sys2Proof.Machine

/-- The loop of R480, at most `fuel` steps: the cycles a step charged, a faulting one's opcode fetch included (log entry 8), are
taken from the budget. -/
def runSteps : Nat → State → State
  | 0, s => s
  | fuel + 1, s =>
    if 0 < s.budget ∧ s.fault = none then
      match step s with
      | .next t => runSteps fuel { t with budget := t.budget - t.stepCycles }
      | .fault _ => s
      | .refused _ => s
    else s

/-- `Run(N)` (R480). Every step costs at least one cycle, so as many steps as there are cycles in the budget are enough
to end the loop. -/
def runFor (n : Nat) (s : State) : State :=
  let s := { s with budget := s.budget + n }
  runSteps s.budget.toNat s

/-- Input injection (R481, R460): the new masks take effect at once, and a key newly pressed in a selected group requests the
input interrupt. -/
def injectInput (dir btn : BitVec 4) (s : State) : State :=
  let j := s.joypad
  let pressed :=
    (!j.sel.getLsbD 0 && dir &&& ~~~j.dirMask != 0) || (!j.sel.getLsbD 1 && btn &&& ~~~j.btnMask != 0)
  let s := { s with joypad := { j with dirMask := dir, btnMask := btn } }
  if pressed then { s with dev := s.dev.request 4 } else s

/-- `Reset` called by the host between runs (R500, R503): the ROM image stays, the RAM holds the draw `draw`. -/
def hostReset (draw : Memory) (s : State) : State :=
  State.resetWith s.params (s.mem.filter (·.1 < 0x8000) ++ draw.filter (0x8000 ≤ ·.1))

end Sys2Proof.Machine
end

