-- ==== Sys2Proof/Safety.lean ====
section
/-!
DEFINITION. What claims are stated in: the invariant of the machine, and the vocabulary of a frame (what an instruction leaves
unchanged).
-/

namespace Sys2Proof.Machine

/-! ### The invariant -/

/-- Memory is in canonical form and lists only storage of the block. -/
def State.memOk (s : State) : Prop := s.mem.wf ∧ s.mem.inStorage

/-- F's low nibble is zero (R23). -/
def State.flagsOk (s : State) : Prop := s.regs.f &&& 0x0F = 0

/-- The edge detector is the selected bit of the counter gated by the enable bit (R41). -/
def Timer.edgeOk (t : Timer) : Prop := t.edge = t.signal

/-- The display's timing state (R45, R451, R454-R456): STAT[2] tells whether LY = LYC; LY is a line; while the display is on,
mode 1 holds exactly on lines 144-153 and the dot budget is within the mode's length; while it is off, LY and the mode are 0. -/
def Display.ok (d : Display) : Prop :=
  d.coincidence = (d.ly == d.lyc) ∧ d.ly.toNat < 154 ∧
    (if d.on then (d.mode = .vblank ↔ 144 ≤ d.ly.toNat) ∧ 0 < d.dots ∧ d.dots ≤ d.mode.length
     else d.ly = 0 ∧ d.mode = .hblank)

/-- The enable latency (R406, R410): a pending enable stands only while IME = 0, and at a step boundary it is EnableNow. -/
def State.latencyOk (s : State) : Prop :=
  s.imeState ≠ .enableRequested ∧ (s.imeState = .enableNow → s.ime = false)

/-- The Bug state is entered only with a request pending (R331), which no tick takes away. -/
def State.haltOk (s : State) : Prop := s.halt = .bug → s.pending = true

/-- The invariant of every step boundary. -/
def State.inv (s : State) : Prop :=
  s.memOk ∧ s.flagsOk ∧ s.dev.timer.edgeOk ∧ s.dev.display.ok ∧ s.latencyOk ∧ s.haltOk

/-! ### Frames -/

/-- The registers a frame speaks of: the 8-bit registers, and SP. F is spoken of by its flags, PC not at all. -/
inductive FrameReg where
  | r8 (r : R8)
  | sp
deriving DecidableEq, Repr

/-- The registers a pair is made of. -/
def pairRegs (p : R16) : List FrameReg :=
  match p with
  | .bc => [.r8 .b, .r8 .c]
  | .de => [.r8 .d, .r8 .e]
  | .hl => [.r8 .h, .r8 .l]
  | .sp => [.sp]

/-- The registers an 8-bit operand is made of. -/
def opndRegs (x : Opnd8) : List FrameReg :=
  match x with
  | .reg r => [.r8 r]
  | .hlInd => []

/-- Every register but those of `rs` is unchanged. -/
def keepsRegs (rs : List FrameReg) (s t : State) : Prop :=
  (∀ r : R8, .r8 r ∉ rs → t.reg r = s.reg r) ∧ (.sp ∉ rs → t.regs.sp = s.regs.sp)

/-- The four flags. -/
inductive Flag where
  | z | n | h | c
deriving DecidableEq, Repr

/-- A flag of a state (R24). -/
def State.flag (s : State) (f : Flag) : Bool :=
  match f with
  | .z => s.zf
  | .n => s.nf
  | .h => s.hf
  | .c => s.cf

/-- Every flag but those of `fs` is unchanged; with `fs` empty the whole of F is. -/
def keepsFlags (fs : List Flag) (s t : State) : Prop :=
  (∀ f : Flag, f ∉ fs → t.flag f = s.flag f) ∧ (fs = [] → t.regs.f = s.regs.f)

/-- Every byte of memory but those at the keys `ks` is unchanged. -/
def keepsMem (ks : List Nat) (s t : State) : Prop := ∀ k, k ∉ ks → t.mem.read k = s.mem.read k

/-- The master enable and its latency are unchanged. -/
def keepsIme (s t : State) : Prop := t.ime = s.ime ∧ t.imeState = s.imeState

/-- The halt state, the fault, the budget, the parameters and the opcode address of this step are unchanged. -/
def keepsControl (s t : State) : Prop :=
  t.halt = s.halt ∧ t.fault = s.fault ∧ t.budget = s.budget ∧ t.params = s.params ∧ t.opPc = s.opPc

/-- The registers reached through the bus that no tick advances are unchanged: IE, the input and serial registers, the DMA register
and what an external APU has received. -/
def keepsPeripherals (s t : State) : Prop :=
  t.ie = s.ie ∧ t.joypad = s.joypad ∧ t.serial = s.serial ∧ t.dma = s.dma ∧ t.apuLog = s.apuLog

/-- The timer, the display, IF and the renderer calls are those of `n` ticks and nothing else (R101). -/
def passes (n : Nat) (s t : State) : Prop := t.dev = (s.ticks n).dev

/-- The frame of an instruction that stores nothing: it changes at most the registers `rs` and the flags `fs`, and PC, and `n`
cycles pass after its fetch. -/
def frame (rs : List FrameReg) (fs : List Flag) (n : Nat) (s t : State) : Prop :=
  keepsRegs rs s t ∧ keepsFlags fs s t ∧ keepsMem [] s t ∧ keepsIme s t ∧ keepsControl s t ∧
    keepsPeripherals s t ∧ t.mapperLog = s.mapperLog ∧ passes n s t ∧ t.stepCycles = s.stepCycles + n

/-- An address whose write reaches a register of the block or the external APU, not memory or the cartridge (R110). -/
def isRegister (a : Word) : Bool := region a == .io || region a == .ie

/-- An address whose write goes to the cartridge (R111). -/
def isCartridge (a : Word) : Bool := region a == .rom || region a == .cartRam

/-- The frame of an instruction that stores one byte at each of the addresses `as`: it changes at most the registers `rs`, the flags
`fs`, PC, and the memory keys that writes to `as` reach; peripheral registers only where one of `as` is one, the mapper's state only
where one of `as` is the cartridge's. -/
def storeFrame (rs : List FrameReg) (fs : List Flag) (as : List Word) (n : Nat) (s t : State) : Prop :=
  keepsRegs rs s t ∧ keepsFlags fs s t ∧ keepsMem (as.flatMap storedKeys) s t ∧ keepsIme s t ∧ keepsControl s t ∧
    ((∀ a ∈ as, isRegister a = false) → keepsPeripherals s t ∧ passes n s t) ∧
    ((∀ a ∈ as, isCartridge a = false) → t.mapperLog = s.mapperLog) ∧
    t.stepCycles = s.stepCycles + n

/-! ### What statements about instructions are written in -/

end Sys2Proof.Machine

namespace Sys2Proof

/-- The register field (R156): B 0, C 1, D 2, E 3, H 4, L 5, A 7. -/
def R8.code (r : R8) : Byte :=
  match r with
  | .b => 0
  | .c => 1
  | .d => 2
  | .e => 3
  | .h => 4
  | .l => 5
  | .a => 7

/-- The operand field (R156), with 6 for the byte at HL. -/
def Opnd8.code (x : Opnd8) : Byte :=
  match x with
  | .reg r => R8.code r
  | .hlInd => 6

/-- The pair field `rp` (R158). -/
def R16.code (p : R16) : Byte :=
  match p with
  | .bc => 0
  | .de => 1
  | .hl => 2
  | .sp => 3

/-- The pair field `rp2` (R158). -/
def RStk.code (p : RStk) : Byte :=
  match p with
  | .bc => 0
  | .de => 1
  | .hl => 2
  | .af => 3

/-- The condition field (R157). -/
def Cond.code (cc : Cond) : Byte :=
  match cc with
  | .nz => 0
  | .z => 1
  | .nc => 2
  | .c => 3

/-- The ALU field (R159). -/
def AluOp.code (op : AluOp) : Byte :=
  match op with
  | .add => 0
  | .adc => 1
  | .sub => 2
  | .sbc => 3
  | .and => 4
  | .xor => 5
  | .or => 6
  | .cp => 7

/-- The rotate and shift field (R160). -/
def RotOp.code (op : RotOp) : Byte :=
  match op with
  | .rlc => 0
  | .rrc => 1
  | .rl => 2
  | .rr => 3
  | .sla => 4
  | .sra => 5
  | .swap => 6
  | .srl => 7

end Sys2Proof

namespace Sys2Proof.Machine

/-- `x[F] = Z N H C 0000` as a number (R24, R23). -/
def hasFlags (t : State) (z n h c : Bool) : Prop :=
  t.regs.f.toNat = 128 * z.toNat + 64 * n.toNat + 32 * h.toNat + 16 * c.toNat

/-- `s` with F replaced. -/
def State.withF (s : State) (f : Byte) : State := { s with regs := { s.regs with f := f } }

/-- The value of an 8-bit operand (R156, R350). -/
def opndVal (x : Opnd8) (s : State) : Byte :=
  match x with
  | .reg r => s.reg r
  | .hlInd => routeRead (s.pair .hl) s

/-- The cycles that reading an 8-bit operand takes (R350). -/
def opndCycles (x : Opnd8) : Nat :=
  match x with
  | .reg _ => 0
  | .hlInd => 1

/-- `s` after a read-modify-write of operand `x` that leaves `w` in it: the memory form reads in one cycle and writes in the
next (R350, R266). -/
def afterOpnd (x : Opnd8) (w : Byte) (s : State) : State :=
  match x with
  | .reg r => s.setReg r w
  | .hlInd => memWrite (s.pair .hl) w s.tick

/-- The frame of a read-modify-write of operand `x`. -/
def opndFrame (x : Opnd8) (fs : List Flag) (s t : State) : Prop :=
  match x with
  | .reg r => frame [.r8 r] fs 0 s t
  | .hlInd => storeFrame [] fs [s.pair .hl] 2 s t

/-- `i` answers the next state `t`, with PC as its fetch left it and the frame of an instruction that stores nothing. -/
def computes (i : Instr) (rs : List FrameReg) (fs : List Flag) (n : Nat) (s t : State) : Prop :=
  exec i s = .next t ∧ t.regs.pc = s.regs.pc ∧ frame rs fs n s t

/-- `i` answers the next state `t` in which register `r` holds the byte read at `a`, one cycle later, and nothing else is
changed. -/
def loads (i : Instr) (r : R8) (a : Word) (s : State) : Prop :=
  ∃ t, computes i [.r8 r] [] 1 s t ∧ t.reg r = routeRead a s

/-- `i` answers the next state of one bus write of `v` at `a`, and nothing else is changed. -/
def stores (i : Instr) (a : Word) (v : Byte) (s : State) : Prop :=
  exec i s = .next (memWrite a v s) ∧ storeFrame [] [] [a] 1 s (memWrite a v s)

/-- `s` after `Push16(v)` (R227): the high byte at SP - 1, then the low byte at SP - 2, where SP is left. -/
def pushed (v : Word) (s : State) : State :=
  (memWrite (s.regs.sp - 2) (loByte v) (memWrite (s.regs.sp - 1) (hiByte v) s)).setPair .sp (s.regs.sp - 2)

/-- The word that `Pop16()` returns in `s` (R228): the low byte at SP, and one cycle later the high byte at SP + 1. -/
def stackTop (s : State) : Word := routeRead (s.regs.sp + 1) s.tick ++ routeRead s.regs.sp s

/-- A rotate or shift of the number `v` with carry `c` (R351-R365), in arithmetic. -/
def rotated (op : RotOp) (v c : Nat) : Nat :=
  match op with
  | .rlc => (2 * v + v / 128) % 256
  | .rrc => v / 2 + 128 * (v % 2)
  | .rl => (2 * v + c) % 256
  | .rr => v / 2 + 128 * c
  | .sla => (2 * v) % 256
  | .sra => v / 2 + 128 * (v / 128)
  | .swap => 16 * (v % 16) + v / 16
  | .srl => v / 2

/-- The carry that a rotate or shift of `v` leaves: bit 7 to the left, bit 0 to the right, 0 for SWAP (R351-R365). -/
def rotatedOut (op : RotOp) (v : Nat) : Bool :=
  match op with
  | .rlc => decide (128 ≤ v)
  | .rrc => decide (v % 2 = 1)
  | .rl => decide (128 ≤ v)
  | .rr => decide (v % 2 = 1)
  | .sla => decide (128 ≤ v)
  | .sra => decide (v % 2 = 1)
  | .swap => false
  | .srl => decide (v % 2 = 1)

/-- A byte read as two's complement (R9, R161). -/
def signedByte (e : Byte) : Int := if e.toNat < 128 then e.toNat else (e.toNat : Int) - 256

/-- RAM that no lock closes: work RAM, its mirror and high RAM (R110, R115). -/
def isOpenRam (a : Word) : Bool := region a == .wram || region a == .echo || region a == .hram

/-! ### Steps -/

/-- `s` after fetching an instruction of `n` bytes: PC past it, `n` cycles charged in this step, the opcode's address noted
(R150-R152). -/
def afterFetch (n : Nat) (s : State) : State :=
  (State.ticks n { s with stepCycles := 0, opPc := s.regs.pc }).setPc (s.regs.pc + BitVec.ofNat 16 n)

/-- `s` after a step that fetches one opcode byte and records the fault `r` (R150, R403): one cycle charged, PC past the byte or, in the
halt-bug fetch, on it. -/
def faulted (r : Fault) (s : State) : State :=
  { (afterFetch 1 s).setPc (if s.halt = .bug then s.regs.pc else s.regs.pc + 1) with halt := .off, fault := some r }

/-- The bytes that three fetches from `a` on return, one cycle apart (R102, R151). -/
def bytesAt (a : Word) (s : State) : List Byte :=
  [routeRead a s, routeRead (a + 1) s.tick, routeRead (a + 2) s.tick.tick]

/-- `s` after `Dispatch()` has taken source `k`, in a step of its own (R425). -/
def dispatched (k : Nat) (s : State) : State :=
  ((pushed s.regs.pc
      { s with
        dev := { s.dev with ifr := s.dev.ifr &&& ~~~(1#5 <<< k) }
        ime := false, imeState := .stable, halt := .off, stepCycles := 0 }).ticks 3).setPc
    (BitVec.ofNat 16 (0x40 + 8 * k))

/-- Source `k` is the one that dispatch takes: requested and enabled, and no lower one is both (R423). -/
def isLowestRequest (k : Nat) (s : State) : Prop :=
  k < 5 ∧ s.ie.getLsbD k = true ∧ s.dev.ifr.getLsbD k = true ∧
    ∀ j, j < k → ¬ (s.ie.getLsbD j = true ∧ s.dev.ifr.getLsbD j = true)

/-! ### Documented cycle counts -/

/-- The `cycles` field of spec/opcode_table.json for the primary rows, high nibble by high nibble (R531), the taken count where there
are two. 0x10 is given by `STOP_MODE` and 0xCB by its second byte (`documentedCycles`). -/
def takenCycles : List Nat :=
  [1, 3, 2, 2, 1, 1, 2, 1, 5, 2, 2, 2, 1, 1, 2, 1] ++
  [1, 3, 2, 2, 1, 1, 2, 1, 3, 2, 2, 2, 1, 1, 2, 1] ++
  [3, 3, 2, 2, 1, 1, 2, 1, 3, 2, 2, 2, 1, 1, 2, 1] ++
  [3, 3, 2, 2, 3, 3, 3, 1, 3, 2, 2, 2, 1, 1, 2, 1] ++
  [1, 1, 1, 1, 1, 1, 2, 1, 1, 1, 1, 1, 1, 1, 2, 1] ++
  [1, 1, 1, 1, 1, 1, 2, 1, 1, 1, 1, 1, 1, 1, 2, 1] ++
  [1, 1, 1, 1, 1, 1, 2, 1, 1, 1, 1, 1, 1, 1, 2, 1] ++
  [2, 2, 2, 2, 2, 2, 1, 2, 1, 1, 1, 1, 1, 1, 2, 1] ++
  [1, 1, 1, 1, 1, 1, 2, 1, 1, 1, 1, 1, 1, 1, 2, 1] ++
  [1, 1, 1, 1, 1, 1, 2, 1, 1, 1, 1, 1, 1, 1, 2, 1] ++
  [1, 1, 1, 1, 1, 1, 2, 1, 1, 1, 1, 1, 1, 1, 2, 1] ++
  [1, 1, 1, 1, 1, 1, 2, 1, 1, 1, 1, 1, 1, 1, 2, 1] ++
  [5, 3, 4, 4, 6, 4, 2, 4, 5, 4, 4, 0, 6, 6, 2, 4] ++
  [5, 3, 4, 1, 6, 4, 2, 4, 5, 4, 4, 1, 6, 1, 2, 4] ++
  [3, 3, 2, 1, 1, 4, 2, 4, 4, 1, 4, 1, 1, 1, 2, 4] ++
  [3, 3, 2, 1, 1, 4, 2, 4, 3, 2, 4, 1, 1, 1, 2, 4]

/-- The count of an untaken conditional transfer: JR and RET 2, JP and CALL 3; of another opcode, its only count (R531). -/
def notTakenCycles (op : Byte) : Nat :=
  if op &&& 0xE7 = 0x20 ∨ op &&& 0xE7 = 0xC0 then 2
  else if op &&& 0xE7 = 0xC2 ∨ op &&& 0xE7 = 0xC4 then 3
  else takenCycles.getD op.toNat 0

/-- The count of a secondary row: 2 on a register; on (HL), 3 for BIT and 4 for the others (R531). -/
def secondaryCycles (b : Byte) : Nat :=
  if b &&& 0x07 ≠ 0x06 then 2 else if b &&& 0xC0 = 0x40 then 3 else 4

/-- The condition in the field `op[4:3]` (R157). -/
def condField (op : Byte) : Cond :=
  match (op.extractLsb' 3 2).toNat with
  | 0 => .nz
  | 1 => .z
  | 2 => .nc
  | _ => .c

/-- The documented cycle count of the instruction with these bytes (R531), its condition read in `s`. -/
def documentedCycles (bytes : List Byte) (s : State) : Nat :=
  match bytes with
  | [] => 0
  | op :: rest =>
    if op = 0x10 then (if s.params.stopMode = .fault then 1 else 2)
    else if op = 0xCB then secondaryCycles (rest.headD 0)
    else if s.cond (condField op) then takenCycles.getD op.toNat 0
    else notTakenCycles op

/-! ### Time -/

/-- The clocks between two TIMA counts for a clock select (R64, R446). -/
def timaPeriod (select : BitVec 2) : Nat :=
  match select.toNat with
  | 0 => 1024
  | 1 => 16
  | 2 => 64
  | _ => 256

/-- The display entered mode `m` between `d` and `e`. -/
def Display.entered (m : Mode) (d e : Display) : Bool := d.mode != m && e.mode == m

/-- Two decimal digits in a byte, for a number below 100. -/
def decimalByte (x : Nat) : Byte := BitVec.ofNat 8 (16 * (x / 10) + x % 10)

end Sys2Proof.Machine
end

