-- ==== Sys2Proof/Certificates/Slice0/Obligations.lean ====
section
/-!
DEFINITION. The statements for the provers. Each docstring names the rules of spec/ it formalises. A row function such as
`Instr.rowLd` stands for all the rows of its group; the encoding clause of the statement says which opcode each one is.
An instruction's statements speak of its meaning after its bytes are fetched: PC is past them and their cycles are charged, so
`n` cycles in a frame are the cycles of the rule beyond one for each byte.
-/

section Statements

open Sys2Proof Sys2Proof.Machine

/-! ### Decoding and encoding -/

/-- Decoding what a whole instruction encodes to gives it back, with every operand and whatever follows it
(30_encoding.md R153, R154, R160, R167). -/
def Obligations.DecodeOfEncode : Prop :=
  ∀ (i : Instr) (rest : List Byte), i.wellFormed = true → decode (encode i ++ rest) = .ok (i, rest)

/-- Bytes have one meaning: whatever decodes, decodes to a row whose encoding those bytes begin with, and to a whole instruction
unless the bytes are the escape byte alone, which the model reads as the row PREFIX_CB by itself (log entry 7). -/
def Obligations.EncodeOfDecode : Prop :=
  ∀ (bytes rest : List Byte) (i : Instr), decode bytes = .ok (i, rest) →
    encode i ++ rest = bytes ∧ (i.wellFormed = false ↔ bytes = [0xCB])

/-- Decode is total on every first byte, and the length is fixed by the first byte (R153, R167): any three bytes begin with an
instruction of 1 to 3 bytes, whose length is the same whatever the second and third bytes are. -/
def Obligations.EveryByteDecodes : Prop :=
  ∀ op x y x' y' : Byte, ∃ i j rest rest', decode [op, x, y] = .ok (i, rest) ∧
    decode [op, x', y'] = .ok (j, rest') ∧ 1 ≤ (encode i).length ∧ (encode i).length ≤ 3 ∧
    (encode i).length = (encode j).length

/-- Words written out from the maps R162 and R165, several of every family, decode to the instruction they stand for; the last
two clauses, the escape byte alone and missing operand bytes, are the model's choice (log entry 7). -/
def Obligations.SampleWords : Prop :=
  decode [0x48] = .ok (.ldCB, []) ∧ decode [0x3E, 0x5A] = .ok (.ldAD8 0x5A, []) ∧
  decode [0x08, 0x00, 0xC1] = .ok (.ldIndA16Sp 0xC100, []) ∧ decode [0x76] = .ok (.halt, []) ∧
  decode [0x80] = .ok (.addAB, []) ∧ decode [0xDE, 0x3A] = .ok (.sbcAD8 0x3A, []) ∧
  decode [0x33] = .ok (.incSp, []) ∧ decode [0xE8, 0x02] = .ok (.addSpE8 0x02, []) ∧
  decode [0x30, 0xFC] = .ok (.jrNcE8 0xFC, []) ∧ decode [0xCD, 0x00, 0x02] = .ok (.callA16 0x0200, []) ∧
  decode [0xFF] = .ok (.rst38, []) ∧ decode [0xFB] = .ok (.ei, []) ∧ decode [0xED] = .ok (.illegalED, []) ∧
  decode [0xCB, 0x37] = .ok (.swapA, []) ∧ decode [0xCB, 0x66] = .ok (.bit4IndHl, []) ∧
  decode [0xCB, 0xDE, 0x11] = .ok (.set3IndHl, [0x11]) ∧ decode [0xCB] = .ok (.prefixCb, []) ∧
  decode [0xC3, 0x50] = .error (.missingOperand 0xC3)

/-! ### Loads and the stack -/

/-- `LD r,r'`, `LD r,d8`, `LD rr,d16` and `LD SP,HL` (40_load.md R200, R201, R220, R222), all registers and pairs. -/
def Obligations.RegisterLoads : Prop :=
  (∀ (rd r : R8) (s : State), encode (.rowLd rd r) = [0x40 + 8 * rd.code + r.code] ∧
    ∃ t, computes (.rowLd rd r) [.r8 rd] [] 0 s t ∧ t.reg rd = s.reg r) ∧
  (∀ (rd : R8) (v : Byte) (s : State), encode (.rowLdImm rd v) = [0x06 + 8 * rd.code, v] ∧
    ∃ t, computes (.rowLdImm rd v) [.r8 rd] [] 0 s t ∧ t.reg rd = v) ∧
  (∀ (p : R16) (lo hi : Byte) (s : State), encode (.rowLdPair p (hi ++ lo)) = [0x01 + 16 * p.code, lo, hi] ∧
    ∃ t, computes (.rowLdPair p (hi ++ lo)) (pairRegs p) [] 0 s t ∧ t.pair p = hi ++ lo) ∧
  ∀ s : State, encode .ldSpHl = [0xF9] ∧ ∃ t, computes .ldSpHl [.sp] [] 1 s t ∧ t.regs.sp = s.pair .hl

/-- The 8-bit loads from memory: `LD r,(HL)`, `LD A,(BC)`, `LD A,(DE)`, `LD A,(a16)`, `LDH A,(C)`, `LDH A,(a8)`
(R202, R205, R206, R209, R211, R213). -/
def Obligations.MemoryLoads : Prop :=
  ∀ s : State,
    (∀ r : R8, encode (.rowLdFromHl r) = [0x46 + 8 * r.code] ∧ loads (.rowLdFromHl r) r (s.pair .hl) s) ∧
    (encode .ldAIndBc = [0x0A] ∧ loads .ldAIndBc .a (s.pair .bc) s) ∧
    (encode .ldAIndDe = [0x1A] ∧ loads .ldAIndDe .a (s.pair .de) s) ∧
    (∀ lo hi : Byte, encode (.ldAIndA16 (hi ++ lo)) = [0xFA, lo, hi] ∧ loads (.ldAIndA16 (hi ++ lo)) .a (hi ++ lo) s) ∧
    (encode .ldhAIndC = [0xF2] ∧ loads .ldhAIndC .a (0xFF#8 ++ s.regs.c) s) ∧
    ∀ n : Byte, encode (.ldhAIndA8 n) = [0xF0, n] ∧ loads (.ldhAIndA8 n) .a (0xFF#8 ++ n) s

/-- The stores `LD (HL),r`, `LD (HL),d8`, `LD (BC),A`, `LD (DE),A`, `LD (a16),A`, `LDH (C),A`, `LDH (a8),A`, and `LD (a16),SP`, which
stores SP's low byte at a16 and then its high byte at a16 + 1, which wraps (R203, R204, R207, R208, R210, R212, R214, R221). -/
def Obligations.MemoryStores : Prop :=
  ∀ s : State,
    (∀ r : R8, encode (.rowLdToHl r) = [0x70 + r.code] ∧ stores (.rowLdToHl r) (s.pair .hl) (s.reg r) s) ∧
    (∀ v : Byte, encode (.ldIndHlD8 v) = [0x36, v] ∧ stores (.ldIndHlD8 v) (s.pair .hl) v s) ∧
    (encode .ldIndBcA = [0x02] ∧ stores .ldIndBcA (s.pair .bc) s.regs.a s) ∧
    (encode .ldIndDeA = [0x12] ∧ stores .ldIndDeA (s.pair .de) s.regs.a s) ∧
    (∀ lo hi : Byte, encode (.ldIndA16A (hi ++ lo)) = [0xEA, lo, hi] ∧
      stores (.ldIndA16A (hi ++ lo)) (hi ++ lo) s.regs.a s) ∧
    (encode .ldhIndCA = [0xE2] ∧ stores .ldhIndCA (0xFF#8 ++ s.regs.c) s.regs.a s) ∧
    (∀ n : Byte, encode (.ldhIndA8A n) = [0xE0, n] ∧ stores (.ldhIndA8A n) (0xFF#8 ++ n) s.regs.a s) ∧
    ∀ lo hi : Byte, encode (.ldIndA16Sp (hi ++ lo)) = [0x08, lo, hi] ∧
      ∃ t, t = memWrite ((hi ++ lo) + 1) (hiByte s.regs.sp) (memWrite (hi ++ lo) (loByte s.regs.sp) s) ∧
        exec (.ldIndA16Sp (hi ++ lo)) s = .next t ∧ storeFrame [] [] [hi ++ lo, (hi ++ lo) + 1] 2 s t

/-- `LD A,(HL+)`, `LD A,(HL-)`, `LD (HL+),A`, `LD (HL-),A` (R215-R218): the access at the old HL, then HL stepped, wrapping. -/
def Obligations.HlStepping : Prop :=
  ∀ s : State,
    let hl := s.pair .hl
    let stepped (t : State) (step : Int) : Prop := ((t.pair .hl).toNat : Int) = (hl.toNat + step) % 65536
    let loading (i : Instr) (step : Int) : Prop :=
      ∃ t, computes i [.r8 .a, .r8 .h, .r8 .l] [] 1 s t ∧ t.regs.a = routeRead hl s ∧ stepped t step
    let storing (i : Instr) (step : Int) : Prop :=
      ∃ v t, t = (memWrite hl s.regs.a s).setPair .hl v ∧ exec i s = .next t ∧ stepped t step ∧
        storeFrame [.r8 .h, .r8 .l] [] [hl] 1 s t
    encode .ldAIndHlInc = [0x2A] ∧ loading .ldAIndHlInc 1 ∧ encode .ldAIndHlDec = [0x3A] ∧
      loading .ldAIndHlDec (-1) ∧ encode .ldIndHlIncA = [0x22] ∧ storing .ldIndHlIncA 1 ∧
      encode .ldIndHlDecA = [0x32] ∧ storing .ldIndHlDecA (-1)

/-- `LD HL,SP+e8` and `ADD SP,e8` (R223, 42_alu16.md R280, R284): the sum with the signed byte, and H and C from the unsigned
addition of the low bytes. -/
def Obligations.StackPointerSums : Prop :=
  ∀ (e : Byte) (s : State),
    let sp := s.regs.sp.toNat
    let sums (i : Instr) (rs : List FrameReg) (n : Nat) (dest : State → Word) : Prop :=
      ∃ t, computes i rs [.z, .n, .h, .c] n s t ∧ ((dest t).toNat : Int) = (sp + signedByte e) % 65536 ∧
        hasFlags t false false (decide (15 < sp % 16 + e.toNat % 16)) (decide (255 < sp % 256 + e.toNat))
    encode (.ldHlSpE8 e) = [0xF8, e] ∧ sums (.ldHlSpE8 e) [.r8 .h, .r8 .l] 1 (State.pair · .hl) ∧
      encode (.addSpE8 e) = [0xE8, e] ∧ sums (.addSpE8 e) [.sp] 2 (·.regs.sp)

/-- `PUSH rr` (R224, R227): one internal cycle, then the high byte at SP - 1 and the low byte at SP - 2. -/
def Obligations.PushWord : Prop :=
  ∀ (p : RStk) (s : State),
    let t := pushed (s.stkPair p) s.tick
    encode (.rowPush p) = [0xC5 + 16 * p.code] ∧ exec (.rowPush p) s = .next t ∧
      t.regs.sp = s.regs.sp - 2 ∧ storeFrame [.sp] [] [s.regs.sp - 1, s.regs.sp - 2] 3 s t

/-- `POP rr` and `POP AF` (R225, R226, R228): the word at SP, SP + 2, and for AF the low nibble of F dropped. -/
def Obligations.PopWord : Prop :=
  (∀ s : State, ∀ x ∈ [(RStk.bc, R16.bc), (.de, .de), (.hl, .hl)],
    encode (.rowPop x.1) = [0xC1 + 16 * x.1.code] ∧
    ∃ t, computes (.rowPop x.1) (.sp :: pairRegs x.2) [] 2 s t ∧ t.pair x.2 = stackTop s ∧
      t.regs.sp = s.regs.sp + 2) ∧
  ∀ s : State, encode (.rowPop .af) = [0xF1] ∧
    ∃ t, computes (.rowPop .af) [.sp, .r8 .a] [.z, .n, .h, .c] 2 s t ∧ t.regs.a = hiByte (stackTop s) ∧
      t.regs.f = loByte (stackTop s) &&& 0xF0 ∧ t.regs.sp = s.regs.sp + 2

/-- A push followed by a pop restores the word and SP, except that the flags register's low nibble becomes zero
(20_memory.md R104), with the stack in work RAM, its mirror or high RAM. -/
def Obligations.PushThenPop : Prop :=
  ∀ (p q : RStk) (s : State), s.memOk → isOpenRam (s.regs.sp - 1) = true → isOpenRam (s.regs.sp - 2) = true →
    ∃ u t, exec (.rowPush p) s = .next u ∧ exec (.rowPop q) u = .next t ∧ t.regs.sp = s.regs.sp ∧
      t.stkPair q = if q = .af then s.stkPair p &&& 0xFFF0 else s.stkPair p

/-! ### 8-bit arithmetic and logic -/

/-- ADD and ADC on a register, on (HL) and on an immediate (41_alu8.md R240-R246). -/
def Obligations.Additions : Prop :=
  ∀ (s : State), ∀ op ∈ [AluOp.add, .adc],
    let cin := if op = .adc then s.cf.toNat else 0
    let a := s.regs.a.toNat
    let adds (i : Instr) (n : Nat) (v : Byte) : Prop :=
      ∃ t, computes i [.r8 .a] [.z, .n, .h, .c] n s t ∧ t.regs.a.toNat = (a + v.toNat + cin) % 256 ∧
        hasFlags t (decide ((a + v.toNat + cin) % 256 = 0)) false (decide (15 < a % 16 + v.toNat % 16 + cin))
          (decide (255 < a + v.toNat + cin))
    (∀ x : Opnd8, encode (.rowAlu op x) = [0x80 + 8 * op.code + x.code] ∧
      adds (.rowAlu op x) (opndCycles x) (opndVal x s)) ∧
    ∀ v : Byte, encode (.rowAluImm op v) = [0xC6 + 8 * op.code, v] ∧ adds (.rowAluImm op v) 0 v

/-- SUB, SBC and CP on a register, on (HL) and on an immediate (R240, R247-R252, R262-R264): CP writes only the flags. -/
def Obligations.Subtractions : Prop :=
  ∀ (s : State), ∀ op ∈ [AluOp.sub, .sbc, .cp],
    let cin := if op = .sbc then s.cf.toNat else 0
    let a := s.regs.a.toNat
    let subtracts (i : Instr) (n : Nat) (v : Byte) : Prop :=
      let r : Int := ((a : Int) - v.toNat - cin) % 256
      ∃ t, computes i (if op = .cp then [] else [.r8 .a]) [.z, .n, .h, .c] n s t ∧
        (op ≠ .cp → (t.regs.a.toNat : Int) = r) ∧
        hasFlags t (decide (r = 0)) true (decide (a % 16 < v.toNat % 16 + cin)) (decide (a < v.toNat + cin))
    (∀ x : Opnd8, encode (.rowAlu op x) = [0x80 + 8 * op.code + x.code] ∧
      subtracts (.rowAlu op x) (opndCycles x) (opndVal x s)) ∧
    ∀ v : Byte, encode (.rowAluImm op v) = [0xC6 + 8 * op.code, v] ∧ subtracts (.rowAluImm op v) 0 v

/-- AND, XOR and OR on a register, on (HL) and on an immediate (R253-R261): H is 1 for AND only, N and C are 0. -/
def Obligations.Logic : Prop :=
  ∀ (s : State), ∀ op ∈ [AluOp.and, .xor, .or],
    let combines (i : Instr) (n : Nat) (v : Byte) : Prop :=
      ∃ t, computes i [.r8 .a] [.z, .n, .h, .c] n s t ∧
        (∀ k, k < 8 → t.regs.a.getLsbD k =
          if op = .and then s.regs.a.getLsbD k && v.getLsbD k
          else if op = .xor then s.regs.a.getLsbD k != v.getLsbD k
          else s.regs.a.getLsbD k || v.getLsbD k) ∧
        hasFlags t (decide (t.regs.a = 0)) false (decide (op = .and)) false
    (∀ x : Opnd8, encode (.rowAlu op x) = [0x80 + 8 * op.code + x.code] ∧
      combines (.rowAlu op x) (opndCycles x) (opndVal x s)) ∧
    ∀ v : Byte, encode (.rowAluImm op v) = [0xC6 + 8 * op.code, v] ∧ combines (.rowAluImm op v) 0 v

/-- 8-bit INC and DEC on a register and on (HL) (R265-R268): C is unchanged; the memory form reads in one cycle and writes in the
next. -/
def Obligations.IncrementsAndDecrements : Prop :=
  ∀ (x : Opnd8) (s : State),
    let v := (opndVal x s).toNat
    let steps (i : Instr) (w : Byte) (n h : Bool) : Prop :=
      ∃ t, exec i s = .next t ∧ t = (afterOpnd x w s).withF t.regs.f ∧ opndFrame x [.z, .n, .h] s t ∧
        hasFlags t (decide (w = 0)) n h s.cf
    encode (.rowInc x) = [0x04 + 8 * x.code] ∧
    steps (.rowInc x) (BitVec.ofNat 8 (v + 1)) false (decide (v % 16 = 15)) ∧
    encode (.rowDec x) = [0x05 + 8 * x.code] ∧
    steps (.rowDec x) (BitVec.ofNat 8 (v + 255)) true (decide (v % 16 = 0))

/-- DAA (R269), in arithmetic: the correction is 0x60 and 0x06 as the flags and the digits ask, added after an addition and taken
away after a subtraction. -/
def Obligations.DecimalAdjust : Prop :=
  ∀ s : State,
    let a := s.regs.a.toNat
    let high := s.cf || (!s.nf && decide (0x99 < a))
    let low := s.hf || (!s.nf && decide (9 < a % 16))
    let correction : Int := (if high then 0x60 else 0) + (if low then 0x06 else 0)
    let r := if s.nf then ((a : Int) - correction) % 256 else ((a : Int) + correction) % 256
    encode .daa = [0x27] ∧ ∃ t, computes .daa [.r8 .a] [.z, .h, .c] 0 s t ∧ (t.regs.a.toNat : Int) = r ∧
      hasFlags t (decide (r = 0)) s.nf false high

/-- What DAA is for: on two-digit decimal bytes, ADD then DAA is decimal addition and SUB then DAA decimal subtraction, modulo 100,
with the carry or borrow in C (R240, R269). -/
def Obligations.DecimalArithmetic : Prop :=
  ∀ (x y : Nat) (s : State), x < 100 → y < 100 → s.regs.a = decimalByte x →
    (∃ u t, exec (.rowAluImm .add (decimalByte y)) s = .next u ∧ exec .daa u = .next t ∧
      t.regs.a = decimalByte ((x + y) % 100) ∧ t.cf = decide (100 ≤ x + y)) ∧
    ∃ u t, exec (.rowAluImm .sub (decimalByte y)) s = .next u ∧ exec .daa u = .next t ∧
      t.regs.a = decimalByte ((x + 100 - y) % 100) ∧ t.cf = decide (x < y)

/-- CPL, SCF and CCF (R270-R272), and RLCA, RRCA, RLA and RRA, whose Z is always 0 (R273-R276). -/
def Obligations.AccumulatorOperations : Prop :=
  ∀ s : State,
    let rotates (i : Instr) (op : RotOp) : Prop :=
      ∃ t, computes i [.r8 .a] [.z, .n, .h, .c] 0 s t ∧
        t.regs.a.toNat = rotated op s.regs.a.toNat s.cf.toNat ∧
        hasFlags t false false false (rotatedOut op s.regs.a.toNat)
    (encode .cpl = [0x2F] ∧ ∃ t, computes .cpl [.r8 .a] [.n, .h] 0 s t ∧
      t.regs.a.toNat = 255 - s.regs.a.toNat ∧ hasFlags t s.zf true true s.cf) ∧
    (encode .scf = [0x37] ∧ ∃ t, computes .scf [] [.n, .h, .c] 0 s t ∧ hasFlags t s.zf false false true) ∧
    (encode .ccf = [0x3F] ∧ ∃ t, computes .ccf [] [.n, .h, .c] 0 s t ∧ hasFlags t s.zf false false (!s.cf)) ∧
    encode .rlca = [0x07] ∧ rotates .rlca .rlc ∧ encode .rrca = [0x0F] ∧ rotates .rrca .rrc ∧
    encode .rla = [0x17] ∧ rotates .rla .rl ∧ encode .rra = [0x1F] ∧ rotates .rra .rr

/-- ADD followed by SUB of the same operand restores A, for all values and every operand but A itself and (HL) (R240). -/
def Obligations.AddThenSubtract : Prop :=
  (∀ (v : Byte) (s : State), ∃ u t, exec (.rowAluImm .add v) s = .next u ∧
    exec (.rowAluImm .sub v) u = .next t ∧ t.regs.a = s.regs.a) ∧
  ∀ (r : R8) (s : State), r ≠ .a → ∃ u t, exec (.rowAlu .add (.reg r)) s = .next u ∧
    exec (.rowAlu .sub (.reg r)) u = .next t ∧ t.regs.a = s.regs.a

/-! ### 16-bit arithmetic -/

/-- `INC rr`, `DEC rr` and `ADD HL,rr` (42_alu16.md R281-R283). -/
def Obligations.PairArithmetic : Prop :=
  ∀ (p : R16) (s : State),
    let a := (s.pair .hl).toNat
    let b := (s.pair p).toNat
    (encode (.rowIncPair p) = [0x03 + 16 * p.code] ∧ ∃ t, computes (.rowIncPair p) (pairRegs p) [] 1 s t ∧
      (t.pair p).toNat = (b + 1) % 65536) ∧
    (encode (.rowDecPair p) = [0x0B + 16 * p.code] ∧ ∃ t, computes (.rowDecPair p) (pairRegs p) [] 1 s t ∧
      (t.pair p).toNat = (b + 65535) % 65536) ∧
    (encode (.rowAddHl p) = [0x09 + 16 * p.code] ∧
      ∃ t, computes (.rowAddHl p) [.r8 .h, .r8 .l] [.n, .h, .c] 1 s t ∧ (t.pair .hl).toNat = (a + b) % 65536 ∧
        hasFlags t s.zf false (decide (4095 < a % 4096 + b % 4096)) (decide (65535 < a + b)))

/-! ### Control transfer -/

/-- The condition field (43_control.md R300) and the jumps `JP a16`, `JP cc,a16`, `JP HL`, `JR e8`, `JR cc,e8` (R301-R305). -/
def Obligations.Jumps : Prop :=
  ∀ s : State,
    let jumpsTo (i : Instr) (n : Nat) (pc : Word) : Prop :=
      ∃ t, exec i s = .next t ∧ t.regs.pc = pc ∧ frame [] [] n s t
    let holds (cc : Cond) : Bool :=
      match cc with
      | .nz => !s.zf
      | .z => s.zf
      | .nc => !s.cf
      | .c => s.cf
    let relative (e : Byte) : Word := BitVec.ofInt 16 (s.regs.pc.toNat + signedByte e)
    (∀ lo hi : Byte, encode (.jpA16 (hi ++ lo)) = [0xC3, lo, hi] ∧ jumpsTo (.jpA16 (hi ++ lo)) 1 (hi ++ lo)) ∧
    (∀ (cc : Cond) (lo hi : Byte), encode (.rowJpIf cc (hi ++ lo)) = [0xC2 + 8 * cc.code, lo, hi] ∧
      if holds cc then jumpsTo (.rowJpIf cc (hi ++ lo)) 1 (hi ++ lo)
      else exec (.rowJpIf cc (hi ++ lo)) s = .next s) ∧
    (encode .jpHl = [0xE9] ∧ jumpsTo .jpHl 0 (s.pair .hl)) ∧
    (∀ e : Byte, encode (.jrE8 e) = [0x18, e] ∧ jumpsTo (.jrE8 e) 1 (relative e)) ∧
    ∀ (cc : Cond) (e : Byte), encode (.rowJrIf cc e) = [0x20 + 8 * cc.code, e] ∧
      if holds cc then jumpsTo (.rowJrIf cc e) 1 (relative e) else exec (.rowJrIf cc e) s = .next s

/-- `CALL a16`, `CALL cc,a16` and `RST n` (R306, R307, R312): one internal cycle, the address after the instruction pushed, and the
target. Not taken, nothing happens. -/
def Obligations.Calls : Prop :=
  ∀ s : State,
    let callsTo (i : Instr) (pc : Word) : Prop :=
      ∃ t, t = (pushed s.regs.pc s.tick).setPc pc ∧ exec i s = .next t ∧
        storeFrame [.sp] [] [s.regs.sp - 1, s.regs.sp - 2] 3 s t
    (∀ lo hi : Byte, encode (.callA16 (hi ++ lo)) = [0xCD, lo, hi] ∧ callsTo (.callA16 (hi ++ lo)) (hi ++ lo)) ∧
    (∀ (cc : Cond) (lo hi : Byte), encode (.rowCallIf cc (hi ++ lo)) = [0xC4 + 8 * cc.code, lo, hi] ∧
      if s.cond cc then callsTo (.rowCallIf cc (hi ++ lo)) (hi ++ lo)
      else exec (.rowCallIf cc (hi ++ lo)) s = .next s) ∧
    ∀ n : Fin 8, encode (.rowRst n) = [BitVec.ofNat 8 (0xC7 + 8 * n.val)] ∧
      callsTo (.rowRst n) (BitVec.ofNat 16 (8 * n.val))

/-- `RET`, `RET cc` and `RETI` (R308-R310, 60_exceptions.md R428): PC is the word popped; RETI also sets the master enable at
once. -/
def Obligations.Returns : Prop :=
  ∀ s : State,
    let returns (i : Instr) (n : Nat) (top : Word) : Prop :=
      ∃ t, exec i s = .next t ∧ t.regs.pc = top ∧ t.regs.sp = s.regs.sp + 2 ∧ frame [.sp] [] n s t
    (encode .ret = [0xC9] ∧ returns .ret 3 (stackTop s)) ∧
    (∀ cc : Cond, encode (.rowRetIf cc) = [0xC0 + 8 * cc.code] ∧
      if s.cond cc then returns (.rowRetIf cc) 4 (stackTop s.tick)
      else exec (.rowRetIf cc) s = .next s.tick) ∧
    (encode .reti = [0xD9] ∧ ∃ u t, exec .ret s = .next u ∧ exec .reti s = .next t ∧
      t = { u with ime := true, imeState := .stable })

/-- A call followed by a return comes back to the instruction after the call, with SP as it was (R306-R308, R312, R313), when the
stack is in work RAM, its mirror or high RAM. -/
def Obligations.CallThenReturn : Prop :=
  ∀ (a : Word) (s : State), s.memOk → isOpenRam (s.regs.sp - 1) = true → isOpenRam (s.regs.sp - 2) = true →
    ∃ u t, exec (.callA16 a) s = .next u ∧ u.regs.pc = a ∧ exec .ret u = .next t ∧
      t.regs.pc = s.regs.pc ∧ t.regs.sp = s.regs.sp

/-! ### System instructions -/

/-- NOP, DI, EI and HALT (44_system.md R330, R331, R333, R334). -/
def Obligations.SystemInstructions : Prop :=
  ∀ s : State,
    (encode .nop = [0x00] ∧ exec .nop s = .next s) ∧
    (encode .di = [0xF3] ∧ exec .di s = .next { s with ime := false, imeState := .stable }) ∧
    (encode .ei = [0xFB] ∧ exec .ei s = .next
      (if s.ime = false ∧ s.imeState = .stable then { s with imeState := .enableRequested } else s)) ∧
    (encode .halt = [0x76] ∧ exec .halt s = .next
      { s with halt := if s.ime = false ∧ s.pending = true then .bug else .on })

/-- STOP (R332). With `STOP_MODE = fault` a step that reads it, with no interrupt taken, records the fault with the opcode and its
address and charges one cycle, and there is no further step; with `nop2` one more byte is fetched and nothing else is done. That the
fault is recorded in a next state and only the following step answers it (log entry 9, from R403), that the second byte is fetched
by the meaning and not encoded (log entry 11), and where the address stands (log entry 4) are the model's choice. -/
def Obligations.Stop : Prop :=
  ∀ s : State, encode .stop = [0x10] ∧
    (s.params.stopMode = .fault → exec .stop s = .next { s with fault := some (.unmodelled 0x10 s.opPc) }) ∧
    (s.params.stopMode = .nop2 → ∃ t, exec .stop s = .next t ∧ t.regs.pc = s.regs.pc + 1 ∧ frame [] [] 1 s t) ∧
    (s.params.stopMode = .fault → s.fault = none → s.halt ≠ .on → (s.ime && s.pending) = false →
      routeRead s.regs.pc s = 0x10 →
      step s = .next (faulted (.unmodelled 0x10 s.regs.pc) s) ∧
      step (faulted (.unmodelled 0x10 s.regs.pc) s) = .fault (.unmodelled 0x10 s.regs.pc))

/-- The eleven undefined opcodes (30_encoding.md R163, 44_system.md R335): a step that reads one, with no interrupt taken, records
the fault with the opcode and its address and charges one cycle; no other effect but the fetch's, and there is no further step. That
the fault is recorded in a next state and only the following step answers it (log entry 9, from R403), and where the address stands
(log entry 4), are the model's choice. -/
def Obligations.UndefinedOpcodes : Prop :=
  ∀ op ∈ ([0xD3, 0xDB, 0xDD, 0xE3, 0xE4, 0xEB, 0xEC, 0xED, 0xF4, 0xFC, 0xFD] : List Byte),
    (∃ i, (op, i) ∈ Instr.undefinedRows ∧ encode i = [op] ∧
      ∀ s : State, exec i s = .next { s with fault := some (.illegalOpcode op s.opPc) }) ∧
    ∀ s : State, s.fault = none → s.halt ≠ .on → (s.ime && s.pending) = false → routeRead s.regs.pc s = op →
      step s = .next (faulted (.illegalOpcode op s.regs.pc) s) ∧
      step (faulted (.illegalOpcode op s.regs.pc) s) = .fault (.illegalOpcode op s.regs.pc)

/-- The only synchronous stops (60_exceptions.md R430): an instruction records a fault only if it is an undefined opcode, or STOP
with `STOP_MODE = fault`; every instruction answers a next state, the fault being recorded in it (log entry 9). -/
def Obligations.OnlyUndefinedAndStopFault : Prop :=
  ∀ (i : Instr) (s : State), ∃ t, exec i s = .next t ∧
    (t.fault ≠ s.fault → i ∈ Instr.undefinedRows.map Prod.snd ∨ (i = .stop ∧ s.params.stopMode = .fault))

/-- The escape byte (44_system.md R336): it fetches one byte and executes the row of the secondary map that the byte selects. -/
def Obligations.EscapeByte : Prop :=
  ∀ s : State, encode .prefixCb = [0xCB] ∧ ∃ i, decode [0xCB, routeRead s.regs.pc s] = .ok (i, []) ∧
    (∃ t, exec .prefixCb s = .next t) ∧ exec .prefixCb s = exec i (s.tick.setPc (s.regs.pc + 1))

/-! ### CB-prefixed instructions -/

/-- RLC, RRC, RL and RR on a register and on (HL) (45_cb.md R350-R358). -/
def Obligations.Rotates : Prop :=
  ∀ (x : Opnd8) (s : State), ∀ op ∈ [RotOp.rlc, .rrc, .rl, .rr],
    let v := (opndVal x s).toNat
    encode (.rowRot op x) = [0xCB, 8 * op.code + x.code] ∧
    ∃ w t, exec (.rowRot op x) s = .next t ∧ t = (afterOpnd x w s).withF t.regs.f ∧
      w.toNat = rotated op v s.cf.toNat ∧ opndFrame x [.z, .n, .h, .c] s t ∧
      hasFlags t (decide (w = 0)) false false (rotatedOut op v)

/-- SLA, SRA, SWAP and SRL on a register and on (HL) (R350, R359-R366). -/
def Obligations.Shifts : Prop :=
  ∀ (x : Opnd8) (s : State), ∀ op ∈ [RotOp.sla, .sra, .swap, .srl],
    let v := (opndVal x s).toNat
    encode (.rowRot op x) = [0xCB, 8 * op.code + x.code] ∧
    ∃ w t, exec (.rowRot op x) s = .next t ∧ t = (afterOpnd x w s).withF t.regs.f ∧
      w.toNat = rotated op v s.cf.toNat ∧ opndFrame x [.z, .n, .h, .c] s t ∧
      hasFlags t (decide (w = 0)) false false (rotatedOut op v)

/-- BIT on a register and on (HL) (R367, R368): Z is the complement of the bit, C is unchanged, nothing is written back. -/
def Obligations.BitTests : Prop :=
  ∀ (b : Fin 8) (x : Opnd8) (s : State),
    encode (.rowBit b x) = [0xCB, 0x40 + 8 * BitVec.ofNat 8 b.val + x.code] ∧
    ∃ t, computes (.rowBit b x) [] [.z, .n, .h] (opndCycles x) s t ∧
      hasFlags t (decide ((opndVal x s).toNat / 2 ^ b.val % 2 = 0)) false true s.cf

/-- RES and SET on a register and on (HL) (R369-R372): one bit of the operand, no flag. -/
def Obligations.BitWrites : Prop :=
  ∀ (b : Fin 8) (x : Opnd8) (s : State),
    let puts (i : Instr) (one : Bool) : Prop :=
      ∃ w, exec i s = .next (afterOpnd x w s) ∧ opndFrame x [] s (afterOpnd x w s) ∧
        ∀ k, k < 8 → w.getLsbD k = if k = b.val then one else (opndVal x s).getLsbD k
    encode (.rowRes b x) = [0xCB, 0x80 + 8 * BitVec.ofNat 8 b.val + x.code] ∧ puts (.rowRes b x) false ∧
      encode (.rowSet b x) = [0xCB, 0xC0 + 8 * BitVec.ofNat 8 b.val + x.code] ∧ puts (.rowSet b x) true

/-! ### The step loop and interrupts -/

/-- A step runs the decoded instruction (60_exceptions.md R400, R405): with no fault, no halt and no interrupt to take, when the bytes
at PC decode to `i`, the step is the meaning of `i` on the state after its fetch, then the latency advance. That all the bytes are
fetched before the meaning runs is log entry 10. -/
def Obligations.StepRunsDecodedInstruction : Prop :=
  ∀ (s : State) (i : Instr) (rest : List Byte), s.fault = none → s.halt = .off → (s.ime && s.pending) = false →
    decode (bytesAt s.regs.pc s) = .ok (i, rest) →
    i.wellFormed = true ∧ step s = finishStep (exec i (afterFetch (encode i).length s))

/-- The halt bug (30_encoding.md R150, 70_reset_and_hazards.md R512): the opcode is fetched without advancing PC, so its byte is read
again as the byte after the opcode, and PC ends one byte short (log entry 10 as above). -/
def Obligations.HaltBugStep : Prop :=
  ∀ (s : State) (i : Instr) (rest : List Byte), s.fault = none → s.halt = .bug → (s.ime && s.pending) = false →
    decode [routeRead s.regs.pc s, routeRead s.regs.pc s.tick, routeRead (s.regs.pc + 1) s.tick.tick] =
      .ok (i, rest) →
    step s = finishStep (exec i { (afterFetch (encode i).length s).setPc
      (s.regs.pc + BitVec.ofNat 16 (encode i).length - 1) with halt := .off })

/-- A step answers a next state unless a fault is recorded, and then it answers that fault (R400, R403, log entry 9): the model
never refuses. -/
def Obligations.StepCompletes : Prop :=
  ∀ s : State, (s.fault = none → ∃ t, step s = .next t) ∧ ∀ r, s.fault = some r → step s = .fault r

/-- Halted steps and waking (R404, R424): with nothing pending a halted step is one tick and nothing else; with a request pending and
the master enable off, the step is that of the machine no longer halted. -/
def Obligations.HaltedSteps : Prop :=
  ∀ s : State, s.fault = none → s.halt = .on →
    (s.pending = false → step s = .next (State.tick { s with stepCycles := 0 })) ∧
    (s.pending = true → s.ime = false → step s = step { s with halt := .off })

/-- `pending()` and dispatch (R420, R422, R423, R425, R426): with the master enable on, a pending request is taken, the lowest one
first; its request is cleared, the master enable closed, PC pushed, five cycles charged, PC set to the source's address, and the
same step goes on to fetch and execute there. Nothing else is saved or changed. -/
def Obligations.InterruptDispatch : Prop :=
  ∀ s : State,
    (s.pending = true ↔ ∃ k, isLowestRequest k s) ∧
    ∀ k, s.fault = none → s.ime = true → isLowestRequest k s →
      let t := dispatched k s
      step s = fetchExecute t ∧ t.stepCycles = 5 ∧ t.regs.pc = BitVec.ofNat 16 (0x40 + 8 * k) ∧
        t.ime = false ∧ t.imeState = .stable ∧ t.halt = .off ∧ keepsRegs [.sp] s t ∧ keepsFlags [] s t ∧
        t.regs.sp = s.regs.sp - 2 ∧ keepsMem ([s.regs.sp - 1, s.regs.sp - 2].flatMap storedKeys) s t

/-- The latency of EI (R406, R411): the step that executes EI with IME = 0 leaves IME = 0; the next step takes no interrupt, it runs
the instruction at PC whatever is pending, and it ends with IME = 1, unless it executes DI or stops. -/
def Obligations.EnableLatency : Prop :=
  (∀ s u : State, s.ime = false → s.imeState = .stable → s.fault = none → finishStep (exec .ei s) = .next u →
    u.ime = false ∧ u.imeState = .enableNow) ∧
  ∀ (u : State) (i : Instr) (rest : List Byte), u.ime = false → u.imeState = .enableNow → u.fault = none →
    u.halt = .off → decode (bytesAt u.regs.pc u) = .ok (i, rest) →
    step u = finishStep (exec i (afterFetch (encode i).length u)) ∧
    ∀ t, i ≠ .di → step u = .next t → t.fault = none → t.ime = true ∧ t.imeState = .stable

/-- Who writes IME (R410, R32): no instruction but DI, EI and RETI changes the master enable or its latency. -/
def Obligations.OnlyDiEiRetiWriteIme : Prop :=
  ∀ (i : Instr) (s t : State), i ≠ .di → i ≠ .ei → i ≠ .reti → exec i s = .next t → keepsIme s t

/-- Cycle counts are normative (70_reset_and_hazards.md R530, R531, 60_exceptions.md R401): a step charges the documented count of the
instruction it executes, the taken or untaken one as the condition says, and five more if it dispatches. -/
def Obligations.DocumentedCycles : Prop :=
  ∀ (s : State) (i : Instr) (rest : List Byte), s.fault = none → (beginStep s).halt ≠ .on →
    decode (fetchBytes (beginStep s)).1 = .ok (i, rest) →
    ∃ t, step s = .next t ∧
      t.stepCycles = (if s.ime && s.pending then 5 else 0) + documentedCycles (encode i) s

/-! ### The timer -/

/-- One cycle of the timer (R440-R442, R446): the counter advances by 4 clocks; TIMA counts when the enabled, selected bit falls, which
is when the counter passes a multiple of the period; from 0xFF it reloads from TMA and requests interrupt 2. -/
def Obligations.TimerTick : Prop :=
  ∀ s : State, s.params.clocksPerCycle = 4 → s.dev.timer.edgeOk →
    let t := s.dev.timer
    let t' := s.tick.dev.timer
    let c := t.counter.toNat
    let period := timaPeriod (t.tac.extractLsb' 0 2)
    let falls := t.tac.getLsbD 2 && decide (period / 2 ≤ c % period) && decide ((c + 4) % period < period / 2)
    t'.counter.toNat = (c + 4) % 65536 ∧ t'.edgeOk ∧ t'.tma = t.tma ∧ t'.tac = t.tac ∧
      t'.tima = (if falls then (if t.tima = 0xFF then t.tma else t.tima + 1) else t.tima) ∧
      s.tick.dev.ifr.getLsbD 2 = (s.dev.ifr.getLsbD 2 || (falls && t.tima == 0xFF))

/-- The timer property of the source (95_test_vectors.md V6): an enabled timer whose counter stands at a multiple of the period counts
once a period, for 255 - TIMA periods without a request, and at the end of the next one TIMA holds TMA and interrupt 2 is
requested. -/
def Obligations.TimerOverflow : Prop :=
  ∀ s : State, s.params.clocksPerCycle = 4 → s.dev.timer.edgeOk → s.dev.timer.tac.getLsbD 2 = true →
    let cycles := timaPeriod (s.dev.timer.tac.extractLsb' 0 2) / 4
    let tima := s.dev.timer.tima.toNat
    s.dev.timer.counter.toNat % (4 * cycles) = 0 →
    (∀ n, n < (256 - tima) * cycles → (s.ticks n).dev.timer.tima.toNat = tima + n / cycles ∧
      (s.ticks n).dev.ifr.getLsbD 2 = s.dev.ifr.getLsbD 2) ∧
    (s.ticks ((256 - tima) * cycles)).dev.timer.tima = s.dev.timer.tma ∧
    (s.ticks ((256 - tima) * cycles)).dev.ifr.getLsbD 2 = true

/-- The timer, interrupt and serial registers, read and written (10_state.md R50, R60-R63, R81-R84, R443-R445). A write to DIV clears the
counter and counts once if the enabled, selected bit was 1; TAC stores three bits and never counts; TIMA, TMA, SB and IE store the
byte, SC its bits 7 and 0, IF its low five bits; unused bits read as 1. Nothing else is changed. A CPU access is the router's, and
then one tick (R102). -/
def Obligations.TimerRegisterWrites : Prop :=
  ∀ (v : Byte) (s : State),
    let t := s.dev.timer
    let counts := t.signal
    (t.edgeOk → routeWrite 0xFF04 v s = { s with dev := { s.dev with
      timer := { t with
        counter := 0, edge := false
        tima := if counts then (if t.tima = 0xFF then t.tma else t.tima + 1) else t.tima }
      ifr := if counts && t.tima == 0xFF then s.dev.ifr ||| 0b00100 else s.dev.ifr } }) ∧
    (∃ e, routeWrite 0xFF07 v s = { s with dev := { s.dev with
        timer := { t with tac := v.extractLsb' 0 3, edge := e } } } ∧
      Timer.edgeOk { t with tac := v.extractLsb' 0 3, edge := e }) ∧
    routeWrite 0xFF05 v s = { s with dev := { s.dev with timer := { t with tima := v } } } ∧
    routeWrite 0xFF06 v s = { s with dev := { s.dev with timer := { t with tma := v } } } ∧
    routeWrite 0xFF0F v s = { s with dev := { s.dev with ifr := v.extractLsb' 0 5 } } ∧
    routeWrite 0xFFFF v s = { s with ie := v } ∧
    routeWrite 0xFF01 v s = { s with serial := { s.serial with sb := v } } ∧
    routeWrite 0xFF02 v s = { s with serial := { s.serial with sc7 := v.getLsbD 7, sc0 := v.getLsbD 0 } } ∧
    (routeRead 0xFF04 s).toNat = t.counter.toNat / 256 ∧ routeRead 0xFF05 s = t.tima ∧ routeRead 0xFF06 s = t.tma ∧
    routeRead 0xFF07 s = 0xF8 ||| t.tac.setWidth 8 ∧ routeRead 0xFF0F s = 0xE0 ||| s.dev.ifr.setWidth 8 ∧
    routeRead 0xFFFF s = s.ie ∧ routeRead 0xFF01 s = s.serial.sb ∧
    routeRead 0xFF02 s = 0x7E ||| (if s.serial.sc7 then 0x80 else 0) ||| (if s.serial.sc0 then 0x01 else 0) ∧
    ∀ a, memRead a s = (routeRead a s, s.tick) ∧ memWrite a v s = (routeWrite a v s).tick

/-! ### The display -/

/-- A visible line (R451-R454): from the start of its mode 2, 20 cycles of mode 2, 43 of mode 3 and 51 of mode 0, then the next line
in mode 2, or line 144 in mode 1. -/
def Obligations.VisibleLine : Prop :=
  ∀ s : State, s.params.clocksPerCycle = 4 → s.dev.display.on = true → s.dev.display.ok →
    s.dev.display.mode = .oamSearch → s.dev.display.dots = 80 →
    (∀ n, n < 114 → (s.ticks n).dev.display.ly = s.dev.display.ly ∧
      (s.ticks n).dev.display.mode = if n < 20 then .oamSearch else if n < 63 then .transfer else .hblank) ∧
    (s.ticks 114).dev.display.ly = s.dev.display.ly + 1 ∧
    (s.ticks 114).dev.display.mode = (if s.dev.display.ly = 143 then .vblank else .oamSearch)

/-- A frame (R451, R533): whatever the state of a running display, after 17556 cycles it is the same again, the V-blank request is set
and exactly one framebuffer swap has been called. -/
def Obligations.FramePeriod : Prop :=
  ∀ s : State, s.params.clocksPerCycle = 4 → s.dev.display.on = true → s.dev.display.ok →
    (s.ticks 17556).dev.display = s.dev.display ∧ (s.ticks 17556).dev.ifr.getLsbD 0 = true ∧
    (s.ticks 17556).dev.renderer.count .swap = s.dev.renderer.count .swap + 1

/-- What the display does to the rest in one cycle. While it is off it advances nothing, requests nothing and calls nothing: only the
timer's bit of IF may change (R450). While it is on its requests are V-blank on entering mode 1, and the status interrupt on entering
mode 0, 2 or 1 or on a line change to LYC, each where STAT enables it, and no other (R453-R455, R458); its renderer calls are one swap
on entering mode 1 and one scanline call, of the line, on entering mode 3 (R452, R454, R462; how a call is recorded is log entry 6). -/
def Obligations.DisplayRequests : Prop :=
  ∀ s : State,
    let d := s.dev.display
    let e := s.tick.dev.display
    let sameBit (k : Nat) : Prop := s.tick.dev.ifr.getLsbD k = s.dev.ifr.getLsbD k
    (d.on = false → e = d ∧ s.tick.dev.renderer = s.dev.renderer ∧ ∀ k, k ≠ 2 → sameBit k) ∧
    (s.params.clocksPerCycle = 4 → d.on = true → d.ok →
      s.tick.dev.ifr.getLsbD 0 = (s.dev.ifr.getLsbD 0 || d.entered .vblank e) ∧
      s.tick.dev.ifr.getLsbD 1 = (s.dev.ifr.getLsbD 1 || (d.statEnable.getLsbD 0 && d.entered .hblank e) ||
        (d.statEnable.getLsbD 2 && d.entered .oamSearch e) || (d.statEnable.getLsbD 1 && d.entered .vblank e) ||
        (d.statEnable.getLsbD 3 && d.ly != e.ly && e.ly == e.lyc)) ∧
      (∀ k, 2 < k → sameBit k) ∧
      s.tick.dev.renderer =
        (if d.entered .vblank e then [.swap] else if d.entered .transfer e then [.scanline d.ly] else []) ++
          s.dev.renderer)

/-- The display registers, read and written (R456, R459, 10_state.md R50, R70-R77): turning the display off or on restarts line 0; LYC
updates the coincidence flag with no request; STAT stores bits 6-3 only, and reads bit 7 as 1 and the mode as 0 while the display is
off; the scroll, palette and window registers store the byte. Nothing else is changed. -/
def Obligations.DisplayRegisterWrites : Prop :=
  ∀ (v : Byte) (s : State),
    let d := s.dev.display
    let put (e : Display) : State := { s with dev := { s.dev with display := e } }
    let match0 := decide (d.lyc = 0)
    let modeNumber : Byte :=
      match d.mode with
      | .hblank => 0
      | .vblank => 1
      | .oamSearch => 2
      | .transfer => 3
    routeWrite 0xFF40 v s =
      (if d.lcdc.getLsbD 7 = v.getLsbD 7 then put { d with lcdc := v }
       else if v.getLsbD 7 = false then
         put { d with lcdc := v, ly := 0, mode := .hblank, coincidence := match0 }
       else
         let e := put { d with lcdc := v, ly := 0, mode := .oamSearch, dots := 80, coincidence := match0 }
         if match0 && d.statEnable.getLsbD 3 then
           { e with dev := { e.dev with ifr := e.dev.ifr ||| 0b00010 } } else e) ∧
    routeWrite 0xFF45 v s = put { d with lyc := v, coincidence := decide (d.ly = v) } ∧
    routeWrite 0xFF41 v s = put { d with statEnable := v.extractLsb' 3 4 } ∧
    routeWrite 0xFF42 v s = put { d with scy := v } ∧ routeWrite 0xFF43 v s = put { d with scx := v } ∧
    routeWrite 0xFF47 v s = put { d with bgp := v } ∧ routeWrite 0xFF48 v s = put { d with obp0 := v } ∧
    routeWrite 0xFF49 v s = put { d with obp1 := v } ∧ routeWrite 0xFF4A v s = put { d with wy := v } ∧
    routeWrite 0xFF4B v s = put { d with wx := v } ∧
    routeRead 0xFF40 s = d.lcdc ∧
    routeRead 0xFF41 s = 0x80 ||| d.statEnable.setWidth 8 <<< 3 ||| (if d.coincidence then 0x04 else 0) |||
      (if d.lcdc.getLsbD 7 then modeNumber else 0) ∧
    routeRead 0xFF42 s = d.scy ∧ routeRead 0xFF43 s = d.scx ∧ routeRead 0xFF44 s = d.ly ∧ routeRead 0xFF45 s = d.lyc ∧
    routeRead 0xFF47 s = d.bgp ∧ routeRead 0xFF48 s = d.obp0 ∧ routeRead 0xFF49 s = d.obp1 ∧
    routeRead 0xFF4A s = d.wy ∧ routeRead 0xFF4B s = d.wx

/-! ### The bus -/

/-- The display locks (20_memory.md R112, R114, R115): VRAM and OAM read as 0xFF and ignore writes while locked, and are memory
otherwise. -/
def Obligations.DisplayLocks : Prop :=
  ∀ (a : Word) (v : Byte) (s : State),
    let d := s.dev.display
    let vramLocked := d.lcdc.getLsbD 7 && decide (d.mode = .transfer)
    let oamLocked := d.lcdc.getLsbD 7 &&
      (decide (d.mode = .transfer) || (s.params.oamLockMode2 && decide (d.mode = .oamSearch)))
    let guarded (locked : Bool) : Prop :=
      routeRead a s = (if locked then 0xFF else s.mem.read a.toNat) ∧
        routeWrite a v s = if locked then s else { s with mem := s.mem.write a.toNat v }
    (0x8000 ≤ a.toNat → a.toNat < 0xA000 → guarded vramLocked) ∧
    (0xFE00 ≤ a.toNat → a.toNat < 0xFEA0 → guarded oamLocked)

/-- Work RAM and its mirror are one memory, and RAM keeps what is written (R110, R120): a byte written to work RAM, its mirror or high
RAM is read back at every address of the same byte, and every other byte of memory is left alone. -/
def Obligations.RamReadsBack : Prop :=
  ∀ (a b : Word) (v : Byte) (s : State), s.memOk → isOpenRam a = true →
    let same := a = b ∨ (0xC000 ≤ a.toNat ∧ a.toNat < 0xDE00 ∧ b.toNat = a.toNat + 0x2000) ∨
      (0xC000 ≤ b.toNat ∧ b.toNat < 0xDE00 ∧ a.toNat = b.toNat + 0x2000)
    routeRead b (routeWrite a v s) = if same then v else routeRead b s

/-- Addresses that are not the block's storage. The unusable range and the unmapped registers read as 0xFF and ignore writes (R51,
R110); LY ignores writes (R73). A write to the cartridge changes no memory of the block (R111). That the ROM-only default answers from
an image in State's memory, that an external mapper and an external audio unit (FF10-FF3F, R50) answer as a function of the writes they
have received, and that nothing else is changed by those writes, is the model's choice (log entries 5, 14); the defaults otherwise
ignore writes and read 0xFF, as R111 and R8 say. -/
def Obligations.NoStorageThere : Prop :=
  ∀ (a : Word) (v : Byte) (s : State),
    let n := a.toNat
    let unmapped := (0xFEA0 ≤ n ∧ n < 0xFF00) ∨ n = 0xFF03 ∨ (0xFF08 ≤ n ∧ n < 0xFF0F) ∨ (0xFF4C ≤ n ∧ n < 0xFF80)
    (unmapped → routeRead a s = 0xFF ∧ routeWrite a v s = s) ∧
    (routeWrite 0xFF44 v s = s ∧ routeRead 0xFF44 s = s.dev.display.ly) ∧
    (n < 0x8000 ∨ (0xA000 ≤ n ∧ n < 0xC000) → (routeWrite a v s).mem = s.mem ∧
      (s.params.mapper = .romOnly → routeWrite a v s = s ∧
        routeRead a s = if n < 0x8000 then s.mem.read n else 0xFF) ∧
      (s.params.mapper = .external → routeWrite a v s = { s with mapperLog := (n, v) :: s.mapperLog } ∧
        routeRead a s = Config.mapperRead s.mapperLog a)) ∧
    (0xFF10 ≤ n → n < 0xFF40 →
      (s.params.apu = .silent → routeWrite a v s = s ∧ routeRead a s = 0xFF) ∧
      (s.params.apu = .external → routeWrite a v s = { s with apuLog := (n, v) :: s.apuLog } ∧
        routeRead a s = Config.apuRead s.apuLog a))

/-- OAM DMA (R130-R132): a write of `v` to FF46 copies 160 bytes from page `v` to OAM, whatever the locks, pages E0-FF being moved down
by 0x2000, stores `v`, and changes nothing else; FF46 reads as the byte last written (10_state.md R75). -/
def Obligations.OamDma : Prop :=
  ∀ (v : Byte) (s : State), s.memOk →
    let t := routeWrite 0xFF46 v s
    let page := if v.toNat < 0xE0 then v.toNat else v.toNat - 0x20
    routeRead 0xFF46 s = s.dma ∧ t = { s with dma := v, mem := t.mem } ∧ keepsMem ((List.range 160).map (0xFE00 + ·)) s t ∧
      ∀ n, n < 160 → t.mem.read (0xFE00 + n) =
        routeReadWith false (BitVec.ofNat 16 (256 * page + n)) s

/-- The input registers (10_state.md R80, 60_exceptions.md R460, R481): P1 reads the pressed keys of the selected groups, active low,
and a key of a selected group that becomes pressed requests interrupt 4. -/
def Obligations.InputRegisters : Prop :=
  ∀ (v : Byte) (dir btn : BitVec 4) (s : State),
    let j := s.joypad
    let newly (k : Nat) : Prop := k < 4 ∧
      ((j.sel.getLsbD 0 = false ∧ j.dirMask.getLsbD k = false ∧ dir.getLsbD k = true) ∨
       (j.sel.getLsbD 1 = false ∧ j.btnMask.getLsbD k = false ∧ btn.getLsbD k = true))
    routeWrite 0xFF00 v s = { s with joypad := { j with sel := v.extractLsb' 4 2 } } ∧
    (∀ k, k < 4 → (routeRead 0xFF00 s).getLsbD k =
      !((!j.sel.getLsbD 0 && j.dirMask.getLsbD k) || (!j.sel.getLsbD 1 && j.btnMask.getLsbD k))) ∧
    (routeRead 0xFF00 s).extractLsb' 4 4 = 0b11#2 ++ j.sel ∧
    ∃ f : BitVec 5, injectInput dir btn s =
        { s with joypad := { j with dirMask := dir, btnMask := btn }, dev := { s.dev with ifr := f } } ∧
      ((∃ k, newly k) → f = s.dev.ifr ||| 0b10000) ∧ ((¬ ∃ k, newly k) → f = s.dev.ifr)

/-! ### Reset -/

/-- The values reset leaves (10_state.md R28, R90, 70_reset_and_hazards.md R500), and the reset column of the peripheral register map
(R50), for every parameter, image and draw. -/
def Obligations.ResetValues : Prop :=
  ∀ (p : Params) (image : Memory),
    let s := State.resetWith p image
    (s.regs = { a := 0x01, f := 0xB0, b := 0x00, c := 0x13, d := 0x00, e := 0xD8, h := 0x01, l := 0x4D
                sp := 0xFFFE, pc := 0x0100 } ∧
     s.ime = false ∧ s.imeState = .stable ∧ s.halt = .off ∧ s.fault = none ∧ s.stepCycles = 0 ∧ s.budget = 0 ∧
     s.dev.ifr = 0b00001 ∧ s.ie = 0x00 ∧
     s.dev.timer = { counter := 0xABCC, edge := false, tima := 0x00, tma := 0x00, tac := 0b000 } ∧
     s.dev.display = { lcdc := 0x91, statEnable := 0, coincidence := true, mode := .oamSearch, dots := 80
                       ly := 0, lyc := 0, scy := 0, scx := 0, bgp := 0xFC, obp0 := 0xFF, obp1 := 0xFF
                       wy := 0, wx := 0 } ∧
     s.dma = 0xFF ∧ s.serial = { sb := 0x00, sc7 := false, sc0 := false } ∧
     s.joypad = { sel := 0b00, dirMask := 0, btnMask := 0 } ∧ s.mem = image ∧ s.params = p) ∧
    ∀ x ∈ ([(0xFF00, 0xCF), (0xFF01, 0x00), (0xFF02, 0x7E), (0xFF04, 0xAB), (0xFF05, 0x00), (0xFF06, 0x00),
            (0xFF07, 0xF8), (0xFF0F, 0xE1), (0xFF40, 0x91), (0xFF41, 0x86), (0xFF42, 0x00), (0xFF43, 0x00),
            (0xFF44, 0x00), (0xFF45, 0x00), (0xFF46, 0xFF), (0xFF47, 0xFC), (0xFF48, 0xFF), (0xFF49, 0xFF),
            (0xFF4A, 0x00), (0xFF4B, 0x00), (0xFFFF, 0x00)] : List (Word × Byte)), routeRead x.1 s = x.2

/-! ### Invariants -/

/-- The invariant holds right after reset, for every draw and image in canonical form (R500). -/
def Obligations.InvAtReset : Prop :=
  State.reset.inv ∧ ∀ (p : Params) (image : Memory), image.wf → image.inStorage → (State.resetWith p image).inv

/-- Every step keeps the invariant: memory in canonical form over the block's storage, F's low nibble zero (R23), the edge detector the
selected bit (R41), the display's line, mode and dot budget in range (R45, R451), the latency machine at rest or about to enable
(R406), the Bug state only with a request pending (R331). -/
def Obligations.StepKeepsInv : Prop := ∀ s t : State, s.inv → step s = .next t → t.inv

/-- No step changes the ROM image, the parameters or the budget (R111, R8, R480): program code cannot change the cartridge. Where the
image and the parameters stand in State is the model's choice (log entries 3, 14). -/
def Obligations.StepKeepsRom : Prop :=
  ∀ s t : State, step s = .next t →
    (∀ k, k < 0x8000 → t.mem.read k = s.mem.read k) ∧ t.params = s.params ∧ t.budget = s.budget

/-- What the host may do between steps keeps the invariant (R481, R483, R503): a run, an input injection, a reset with any draw. -/
def Obligations.HostKeepsInv : Prop :=
  ∀ (n : Nat) (dir btn : BitVec 4) (draw : Memory) (s : State), s.inv → draw.wf → draw.inStorage →
    (runFor n s).inv ∧ (injectInput dir btn s).inv ∧ (hostReset draw s).inv

/-- `Run(N)` is the loop of 60_exceptions.md R480: with no budget left, or a fault recorded, it ends at once; else it takes a step,
spends the cycles of that step and goes on, also where the step recorded a fault (log entry 8). So it ends with the budget spent or
a fault recorded, and what it overspends is less than the 11 cycles of the longest step. -/
def Obligations.RunSpendsItsBudget : Prop :=
  ∀ (n : Nat) (s : State),
    let s' := { s with budget := s.budget + n }
    (s'.budget ≤ 0 ∨ s.fault ≠ none → runFor n s = s') ∧
    (∀ t, 0 < s'.budget → step s' = .next t →
      runFor n s = runFor 0 { t with budget := s'.budget - t.stepCycles }) ∧
    ((runFor n s).fault ≠ none ∨ (runFor n s).budget ≤ 0) ∧ (0 < s'.budget → -11 < (runFor n s).budget)

end Statements
end

