-- ==== Sys2Proof/Laws/Devices.lean ====
section
/-!
SUPPORT. What one cycle can do to the timer and the display: the edge detector is always the selected bit, the display's line, mode and
dot budget stay in range, requests are only added, and the loop of R450 ends with a positive budget.
-/

namespace Sys2Proof.Machine

/-! ### Requests -/

@[simp] theorem request_timer (k : Nat) (d : Devices) : (d.request k).timer = d.timer := rfl
@[simp] theorem request_display (k : Nat) (d : Devices) : (d.request k).display = d.display := rfl
@[simp] theorem request_renderer (k : Nat) (d : Devices) : (d.request k).renderer = d.renderer := rfl
@[simp] theorem request_ifr (k : Nat) (d : Devices) : (d.request k).ifr = d.ifr ||| (1#5 <<< k) := rfl

/-- The bit that a request sets, and no other (R421). -/
theorem getLsbD_request (k j : Nat) (d : Devices) (hk : k < 5) :
    (d.request k).ifr.getLsbD j = (d.ifr.getLsbD j || decide (j = k)) := by
  have h1 : (1#5 <<< k).getLsbD j = decide (j = k) := by
    by_cases h : j = k
    · subst h; interval_cases j <;> rfl
    · by_cases hj : j < 5
      · interval_cases k <;> interval_cases j <;> rfl
      · simp [h]; omega
  simp [h1]

/-! ### The timer -/

/-- What `TimerEdge` does to the timer: the edge bit becomes the selected bit, and TIMA counts a counted falling edge. -/
theorem timerEdge_timer (count : Bool) (d : Devices) :
    (d.timerEdge count).timer = { d.timer with
      edge := d.timer.signal
      tima := if (count && d.timer.edge && !d.timer.signal) = true then
          (if d.timer.tima = 0xFF then d.timer.tma else d.timer.tima + 1) else d.timer.tima } := by
  unfold Devices.timerEdge Devices.incTima
  by_cases h : (count && d.timer.edge && !d.timer.signal) = true
  · by_cases h2 : d.timer.tima = 0xFF
    · simp [h, h2]
    · simp only [h, h2, if_true, if_false]
  · simp [h]

/-- What `TimerEdge` does to IF: the timer request on an overflowing count (R442). -/
theorem timerEdge_ifr (count : Bool) (d : Devices) :
    (d.timerEdge count).ifr =
      if (count && d.timer.edge && !d.timer.signal) = true ∧ d.timer.tima = 0xFF then d.ifr ||| (1#5 <<< 2) else d.ifr := by
  unfold Devices.timerEdge Devices.incTima
  by_cases h : (count && d.timer.edge && !d.timer.signal) = true
  · by_cases h2 : d.timer.tima = 0xFF
    · simp [h, h2]
    · simp only [h, h2, if_true, if_false, and_false]
  · simp [h]

@[simp] theorem timerEdge_display (count : Bool) (d : Devices) : (d.timerEdge count).display = d.display := by
  unfold Devices.timerEdge Devices.incTima
  dsimp only
  split <;> [split; skip] <;> rfl

@[simp] theorem timerEdge_renderer (count : Bool) (d : Devices) : (d.timerEdge count).renderer = d.renderer := by
  unfold Devices.timerEdge Devices.incTima
  dsimp only
  split <;> [split; skip] <;> rfl

/-- The edge detector is right after every recompute (R41). -/
theorem timerEdge_edgeOk (count : Bool) (d : Devices) : (d.timerEdge count).timer.edgeOk := by
  rw [Timer.edgeOk, timerEdge_timer]; rfl

@[simp] theorem timerTick_display (n : Nat) (d : Devices) : (d.timerTick n).display = d.display := by
  simp [Devices.timerTick]

@[simp] theorem timerTick_renderer (n : Nat) (d : Devices) : (d.timerTick n).renderer = d.renderer := by
  simp [Devices.timerTick]

theorem timerTick_edgeOk (n : Nat) (d : Devices) : (d.timerTick n).timer.edgeOk := timerEdge_edgeOk _ _

/-! ### The display: one mode end -/

@[simp] theorem coincide_timer (d : Devices) : d.coincide.timer = d.timer := by
  unfold Devices.coincide; dsimp only; split <;> rfl

@[simp] theorem coincide_renderer (d : Devices) : d.coincide.renderer = d.renderer := by
  unfold Devices.coincide; dsimp only; split <;> rfl

@[simp] theorem coincide_display (d : Devices) :
    d.coincide.display = { d.display with coincidence := d.display.ly == d.display.lyc } := by
  unfold Devices.coincide; dsimp only; split <;> rfl

theorem coincide_ifr (d : Devices) : d.coincide.ifr =
    if (d.display.ly == d.display.lyc && d.display.statEnable.getLsbD 3) = true then d.ifr ||| (1#5 <<< 1) else d.ifr := by
  unfold Devices.coincide; dsimp only; split <;> rfl

@[simp] theorem statRequest_timer (i : Nat) (d : Devices) : (d.statRequest i).timer = d.timer := by
  unfold Devices.statRequest; split <;> rfl

@[simp] theorem statRequest_display (i : Nat) (d : Devices) : (d.statRequest i).display = d.display := by
  unfold Devices.statRequest; split <;> rfl

@[simp] theorem statRequest_renderer (i : Nat) (d : Devices) : (d.statRequest i).renderer = d.renderer := by
  unfold Devices.statRequest; split <;> rfl

theorem statRequest_ifr (i : Nat) (d : Devices) : (d.statRequest i).ifr =
    if d.display.statEnable.getLsbD i = true then d.ifr ||| (1#5 <<< 1) else d.ifr := by
  unfold Devices.statRequest; split <;> rfl

@[simp] theorem enter_timer (m : Mode) (d : Devices) : (d.enter m).timer = d.timer := rfl
@[simp] theorem enter_display (m : Mode) (d : Devices) :
    (d.enter m).display = { d.display with mode := m, dots := d.display.dots + m.length } := rfl
@[simp] theorem enter_ifr (m : Mode) (d : Devices) : (d.enter m).ifr = d.ifr := rfl
@[simp] theorem enter_renderer (m : Mode) (d : Devices) : (d.enter m).renderer = d.renderer := rfl

/-- The display after the end of a line (R454, R455). -/
theorem endOfLine_display (d : Devices) : d.endOfLine.display =
    let ly := nextLine d.display.ly
    let e := { d.display with ly := ly, coincidence := ly == d.display.lyc }
    if ly < 144 then { e with mode := .oamSearch, dots := d.display.dots + 80 }
    else if ly = 144 then { e with mode := .vblank, dots := d.display.dots + 456 }
    else { e with dots := d.display.dots + 456 } := by
  unfold Devices.endOfLine
  simp only [coincide_display]
  split
  · simp [Mode.length]
  · split <;> simp [Mode.length]

/-- The display after a mode end (R452-R454). -/
theorem modeEnd_display (d : Devices) : d.modeEnd.display =
    match d.display.mode with
    | .oamSearch => { d.display with mode := .transfer, dots := d.display.dots + 172 }
    | .transfer => { d.display with mode := .hblank, dots := d.display.dots + 204 }
    | .hblank => d.endOfLine.display
    | .vblank => d.endOfLine.display := by
  unfold Devices.modeEnd
  cases d.display.mode <;> simp [Mode.length]

@[simp] theorem endOfLine_timer (d : Devices) : d.endOfLine.timer = d.timer := by
  unfold Devices.endOfLine
  dsimp only
  split
  · simp
  · split <;> simp

@[simp] theorem modeEnd_timer (d : Devices) : d.modeEnd.timer = d.timer := by
  unfold Devices.modeEnd
  cases d.display.mode <;> simp

/-- Every mode end adds at least 80 dots (R451). -/
theorem modeEnd_dots (d : Devices) : d.display.dots + 80 ≤ d.modeEnd.display.dots := by
  rw [modeEnd_display]
  have h : d.display.dots + 80 ≤ d.endOfLine.display.dots := by
    rw [endOfLine_display]
    dsimp only
    split
    · simp
    · split <;> simp
  cases d.display.mode <;> simp [h]

@[simp] theorem modeEnd_lcdc (d : Devices) : d.modeEnd.display.lcdc = d.display.lcdc := by
  rw [modeEnd_display]
  have h : d.endOfLine.display.lcdc = d.display.lcdc := by
    rw [endOfLine_display]
    dsimp only
    split
    · rfl
    · split <;> rfl
  cases d.display.mode <;> simp [h]

/-! ### The display: the loop of R450 -/

theorem modeEnds_of_pos (fuel : Nat) (d : Devices) (h : 0 < d.display.dots) : Devices.modeEnds fuel d = d := by
  cases fuel with
  | zero => rfl
  | succ n => rw [Devices.modeEnds, if_neg (by omega)]

/-- With fuel beyond the deficit, the loop ends with a positive budget. -/
theorem modeEnds_dots_pos (fuel : Nat) (d : Devices) (h : 1 - d.display.dots ≤ fuel) :
    0 < (Devices.modeEnds fuel d).display.dots := by
  induction fuel generalizing d with
  | zero => simp only [Devices.modeEnds]; omega
  | succ n ih =>
    rw [Devices.modeEnds]
    split
    · exact ih _ (by have := modeEnd_dots d; omega)
    · omega

/-- The loop of R450 ends with a positive budget: `settle` runs it to its end. -/
theorem settle_dots_pos (d : Devices) : 0 < d.settle.display.dots := modeEnds_dots_pos _ _ (by omega)

/-- One turn of the loop of R450, as the pseudocode has it. -/
theorem settle_of_le {d : Devices} (h : d.display.dots ≤ 0) : d.settle = d.modeEnd.settle := by
  have key : ∀ (n m : Nat) (e : Devices), 1 - e.display.dots ≤ n → 1 - e.display.dots ≤ m →
      Devices.modeEnds n e = Devices.modeEnds m e := by
    intro n
    induction n with
    | zero =>
      intro m e hn _
      rw [modeEnds_of_pos m e (by omega)]; rfl
    | succ n ih =>
      intro m e hn hm
      by_cases hp : 0 < e.display.dots
      · rw [modeEnds_of_pos _ e hp, modeEnds_of_pos _ e hp]
      · cases m with
        | zero => omega
        | succ m =>
          have := modeEnd_dots e
          rw [Devices.modeEnds, Devices.modeEnds, if_pos (by omega), if_pos (by omega)]
          exact ih m _ (by omega) (by omega)
  unfold Devices.settle
  have hd := modeEnd_dots d
  obtain ⟨n, hn⟩ : ∃ n, (1 - d.display.dots).toNat = n + 1 := ⟨(1 - d.display.dots).toNat - 1, by omega⟩
  rw [hn, Devices.modeEnds, if_pos h]
  exact key _ _ _ (by omega) (by omega)

theorem settle_of_pos {d : Devices} (h : 0 < d.display.dots) : d.settle = d := modeEnds_of_pos _ d h

/-- What every mode end keeps, the loop keeps. -/
theorem settle_induction {P : Devices → Prop} (step : ∀ d, P d → P d.modeEnd) (d : Devices) (h : P d) : P d.settle := by
  unfold Devices.settle
  generalize (1 - d.display.dots).toNat = n
  induction n generalizing d with
  | zero => exact h
  | succ n ih =>
    rw [Devices.modeEnds]
    split
    · exact ih _ (step d h)
    · exact h

@[simp] theorem settle_timer (d : Devices) : d.settle.timer = d.timer :=
  settle_induction (P := fun e => e.timer = d.timer) (fun e h => by rw [modeEnd_timer, h]) d rfl

@[simp] theorem settle_lcdc (d : Devices) : d.settle.display.lcdc = d.display.lcdc :=
  settle_induction (P := fun e => e.display.lcdc = d.display.lcdc) (fun e h => by rw [modeEnd_lcdc, h]) d rfl

@[simp] theorem displayTick_timer (n : Nat) (d : Devices) : (d.displayTick n).timer = d.timer := by
  unfold Devices.displayTick; split <;> simp

@[simp] theorem displayTick_lcdc (n : Nat) (d : Devices) : (d.displayTick n).display.lcdc = d.display.lcdc := by
  unfold Devices.displayTick; split <;> simp

@[simp] theorem tick_timer (n : Nat) (d : Devices) : (d.tick n).timer = (d.timerTick n).timer := by
  simp [Devices.tick]

@[simp] theorem tick_lcdc (n : Nat) (d : Devices) : (d.tick n).display.lcdc = d.display.lcdc := by simp [Devices.tick]

theorem tick_edgeOk (n : Nat) (d : Devices) : (d.tick n).timer.edgeOk := by
  rw [tick_timer]; exact timerTick_edgeOk n d

/-! ### A cycle only adds requests -/

/-- Every request of `d` stands in `e`. -/
def Devices.keepsRequests (d e : Devices) : Prop := ∀ k, d.ifr.getLsbD k = true → e.ifr.getLsbD k = true

theorem Devices.keepsRequests.trans {c d e : Devices} (h1 : c.keepsRequests d) (h2 : d.keepsRequests e) :
    c.keepsRequests e := fun k hk => h2 k (h1 k hk)

/-- The bits of IF after a coincidence check (R455). -/
theorem coincide_bit (d : Devices) (k : Nat) : d.coincide.ifr.getLsbD k =
    (d.ifr.getLsbD k || (decide (k = 1) && (d.display.ly == d.display.lyc && d.display.statEnable.getLsbD 3))) := by
  have h := getLsbD_request 1 k d (by omega)
  rw [request_ifr] at h
  rw [coincide_ifr]
  generalize (d.display.ly == d.display.lyc && d.display.statEnable.getLsbD 3) = b
  cases b
  · simp
  · rw [if_pos rfl, h, Bool.and_true]

/-- The bits of IF after an enabled status event (R458). -/
theorem statRequest_bit (i : Nat) (d : Devices) (k : Nat) : (d.statRequest i).ifr.getLsbD k =
    (d.ifr.getLsbD k || (decide (k = 1) && d.display.statEnable.getLsbD i)) := by
  have h := getLsbD_request 1 k d (by omega)
  rw [request_ifr] at h
  rw [statRequest_ifr]
  generalize d.display.statEnable.getLsbD i = b
  cases b
  · simp
  · rw [if_pos rfl, h, Bool.and_true]

/-- The bits of IF after the end of a line (R454, R455, R458). -/
theorem endOfLine_bit (d : Devices) (k : Nat) : d.endOfLine.ifr.getLsbD k =
    let ly := nextLine d.display.ly
    (d.ifr.getLsbD k ||
      (decide (k = 1) && ((ly == d.display.lyc && d.display.statEnable.getLsbD 3) ||
        (decide (ly < 144) && d.display.statEnable.getLsbD 2) ||
        (decide (ly = 144) && d.display.statEnable.getLsbD 1))) ||
      (decide (k = 0) && decide (ly = 144))) := by
  unfold Devices.endOfLine
  dsimp only
  simp only [coincide_display]
  generalize nextLine d.display.ly = ly
  generalize d.display.statEnable = stat
  by_cases h1 : ly < 144
  · have hne : ly ≠ 144 := fun e => by rw [e] at h1; exact absurd h1 (by decide)
    rw [if_pos h1, statRequest_bit, enter_display, enter_ifr, coincide_display, coincide_bit, decide_eq_true h1,
      decide_eq_false hne]
    dsimp only
    generalize d.ifr.getLsbD k = x, decide (k = 1) = p, decide (k = 0) = q, (ly == d.display.lyc) = u,
      stat.getLsbD 3 = v, stat.getLsbD 2 = w, stat.getLsbD 1 = z
    revert x p q u v w z; decide
  · rw [if_neg h1]
    by_cases h2 : ly = 144
    · rw [if_pos h2, statRequest_bit, getLsbD_request 0 k _ (by omega), request_display, enter_display, enter_ifr,
        coincide_display, coincide_bit, decide_eq_false h1, decide_eq_true h2]
      dsimp only
      generalize d.ifr.getLsbD k = x, decide (k = 1) = p, decide (k = 0) = q, (ly == d.display.lyc) = u,
        stat.getLsbD 3 = v, stat.getLsbD 2 = w, stat.getLsbD 1 = z
      revert x p q u v w z; decide
    · rw [if_neg h2]
      show (Devices.coincide _).ifr.getLsbD k = _
      rw [coincide_bit, decide_eq_false h1, decide_eq_false h2]
      dsimp only
      generalize d.ifr.getLsbD k = x, decide (k = 1) = p, decide (k = 0) = q, (ly == d.display.lyc) = u,
        stat.getLsbD 3 = v, stat.getLsbD 2 = w, stat.getLsbD 1 = z
      revert x p q u v w z; decide

/-- The bits of IF after a mode end (R452-R454, R458). -/
theorem modeEnd_bit (d : Devices) (k : Nat) : d.modeEnd.ifr.getLsbD k =
    match d.display.mode with
    | .oamSearch => d.ifr.getLsbD k
    | .transfer => d.ifr.getLsbD k || (decide (k = 1) && d.display.statEnable.getLsbD 0)
    | .hblank => d.endOfLine.ifr.getLsbD k
    | .vblank => d.endOfLine.ifr.getLsbD k := by
  unfold Devices.modeEnd
  cases d.display.mode with
  | transfer => exact statRequest_bit 0 _ k
  | _ => rfl

theorem keepsRequests_modeEnd (d : Devices) : d.keepsRequests d.modeEnd := by
  intro k hk
  rw [modeEnd_bit]
  have h : d.endOfLine.ifr.getLsbD k = true := by rw [endOfLine_bit]; simp [hk]
  cases d.display.mode <;> simp [hk, h]

theorem keepsRequests_timerEdge (count : Bool) (d : Devices) : d.keepsRequests (d.timerEdge count) := by
  intro k hk
  rw [timerEdge_ifr]
  split <;> simp [hk]

/-- A cycle takes no request away (R421). -/
theorem keepsRequests_tick (n : Nat) (d : Devices) : d.keepsRequests (d.tick n) := by
  have h1 : d.keepsRequests (d.timerTick n) := keepsRequests_timerEdge true
    { d with timer := { d.timer with counter := d.timer.counter + BitVec.ofNat 16 n } }
  refine Devices.keepsRequests.trans h1 ?_
  unfold Devices.tick Devices.displayTick
  split
  · exact settle_induction (P := fun e => (d.timerTick n).keepsRequests e)
      (fun e h => Devices.keepsRequests.trans h (keepsRequests_modeEnd e)) _ (fun k hk => hk)
  · exact fun k hk => hk

/-- The display requests only interrupts 0 and 1 (R422). -/
theorem displayTick_bit (n : Nat) (d : Devices) (k : Nat) (hk : 2 ≤ k) :
    (d.displayTick n).ifr.getLsbD k = d.ifr.getLsbD k := by
  have h0 : k ≠ 0 := by omega
  have h1 : k ≠ 1 := by omega
  unfold Devices.displayTick
  split
  · refine settle_induction (P := fun e => e.ifr.getLsbD k = d.ifr.getLsbD k) ?_ _ rfl
    intro e he
    rw [modeEnd_bit, ← he]
    split <;> simp [endOfLine_bit, h0, h1]
  · rfl

/-! ### The display stays in range -/

/-- The display while dots are owed: in range but for the lower bound on the budget. -/
def Display.runs (d : Display) : Prop :=
  d.coincidence = (d.ly == d.lyc) ∧ d.ly.toNat < 154 ∧ (d.mode = .vblank ↔ 144 ≤ d.ly.toNat) ∧ d.dots ≤ d.mode.length

theorem nextLine_toNat (ly : Byte) (h : ly.toNat < 154) :
    (nextLine ly).toNat = if ly.toNat = 153 then 0 else ly.toNat + 1 := by
  unfold nextLine
  have h1 : (ly + 1).toNat = ly.toNat + 1 := by
    rw [BitVec.toNat_add]; show (ly.toNat + 1) % 256 = _; omega
  have h2 : ly + 1 = 154 ↔ ly.toNat = 153 := by
    rw [← BitVec.toNat_inj, h1]; show _ = 154 ↔ _; omega
  simp only [h2]
  split
  · rfl
  · exact h1

/-- A mode end with the budget spent keeps the display in range. -/
theorem modeEnd_runs (d : Devices) (h : d.display.runs) (hd : d.display.dots ≤ 0) : d.modeEnd.display.runs := by
  obtain ⟨hc, hly, hm, hlen⟩ := h
  rw [modeEnd_display]
  have hn := nextLine_toNat d.display.ly hly
  have line : (d.display.mode = .hblank ∨ d.display.mode = .vblank) → d.endOfLine.display.runs := by
    intro hmode
    have hz : nextLine d.display.ly < 144 ↔ (nextLine d.display.ly).toNat < 144 := by rw [BitVec.lt_def]; rfl
    have he : nextLine d.display.ly = 144 ↔ (nextLine d.display.ly).toNat = 144 := by rw [← BitVec.toNat_inj]; rfl
    rw [endOfLine_display]
    dsimp only
    simp only [hz, he]
    have hlt : (nextLine d.display.ly).toNat < 154 := by rw [hn]; split <;> omega
    split
    · refine ⟨rfl, hlt, ?_, ?_⟩
      · simp; omega
      · simp [Mode.length]; omega
    · split
      · refine ⟨rfl, hlt, ?_, ?_⟩
        · simp; omega
        · simp [Mode.length]; omega
      · have hv : d.display.mode = .vblank := hm.2 (by split at hn <;> omega)
        refine ⟨rfl, hlt, ?_, ?_⟩
        · simp [hv]; omega
        · simp [hv, Mode.length]; omega
  cases hmode : d.display.mode with
  | hblank => exact line (.inl hmode)
  | vblank => exact line (.inr hmode)
  | oamSearch =>
    refine ⟨hc, hly, ?_, ?_⟩
    · simp [hmode] at hm; simpa using hm
    · simp [Mode.length]; omega
  | transfer =>
    refine ⟨hc, hly, ?_, ?_⟩
    · simp [hmode] at hm; simpa using hm
    · simp [Mode.length]; omega

theorem settle_runs (d : Devices) (h : d.display.runs) : d.settle.display.runs := by
  unfold Devices.settle
  generalize (1 - d.display.dots).toNat = n
  induction n generalizing d with
  | zero => exact h
  | succ n ih =>
    rw [Devices.modeEnds]
    split
    · rename_i hd; exact ih _ (modeEnd_runs d h hd)
    · exact h

/-- A cycle keeps the display's timing state in range (R45, R451, R454). -/
theorem tick_display_ok (n : Nat) (d : Devices) (h : d.display.ok) : (d.tick n).display.ok := by
  unfold Devices.tick Devices.displayTick
  rw [timerTick_display]
  by_cases hon : d.display.on = true
  · rw [if_pos hon]
    obtain ⟨hc, hly, hrest⟩ := h
    rw [if_pos hon] at hrest
    obtain ⟨hm, hd, hlen⟩ := hrest
    generalize he : ({ d.timerTick n with
      display := { d.display with dots := d.display.dots - n } } : Devices) = e
    have hruns : e.display.runs := by
      subst he
      exact ⟨hc, hly, hm, by show d.display.dots - n ≤ d.display.mode.length; omega⟩
    have hon' : e.settle.display.on = true := by
      rw [Display.on, settle_lcdc]; subst he; exact hon
    obtain ⟨hc', hly', hm', hlen'⟩ := settle_runs e hruns
    refine ⟨hc', hly', ?_⟩
    rw [if_pos hon']
    exact ⟨hm', settle_dots_pos e, hlen'⟩
  · rw [if_neg hon, timerTick_display]; exact h

/-! ### One cycle of the display, and its renderer calls -/

/-- The display does nothing while it is off (R450). -/
theorem displayTick_off (n : Nat) (d : Devices) (h : d.display.on = false) : d.displayTick n = d := by
  unfold Devices.displayTick
  rw [h]
  rfl

/-- A running display in range ends at most one mode in a cycle of four clocks (R450). -/
theorem displayTick_four (d : Devices) (on : d.display.on = true) (ok : d.display.ok) : d.displayTick 4 =
    let e := { d with display := { d.display with dots := d.display.dots - 4 } }
    if 4 < d.display.dots then e else e.modeEnd := by
  unfold Devices.displayTick
  rw [if_pos on]
  have hd : 0 < d.display.dots := by
    have := ok.2.2
    rw [if_pos on] at this
    exact this.2.1
  dsimp only
  split
  · exact settle_of_pos (by dsimp only; omega)
  · rw [settle_of_le (by dsimp only; omega)]
    refine settle_of_pos ?_
    have := modeEnd_dots { d with display := { d.display with dots := d.display.dots - ((4 : Nat) : Int) } }
    dsimp only at this ⊢
    omega

/-- The swap on entering V-blank is the only call of a line's end (R454, R462). -/
theorem endOfLine_renderer (d : Devices) : d.endOfLine.renderer =
    if nextLine d.display.ly = 144 then .swap :: d.renderer else d.renderer := by
  unfold Devices.endOfLine
  dsimp only
  simp only [coincide_display]
  split
  · rename_i h
    rw [if_neg (fun e => by rw [e] at h; exact absurd h (by decide))]
    simp
  · split <;> simp

/-- The renderer calls of a mode end (R452, R462). -/
theorem modeEnd_renderer (d : Devices) : d.modeEnd.renderer =
    match d.display.mode with
    | .oamSearch => .scanline d.display.ly :: d.renderer
    | .transfer => d.renderer
    | .hblank => d.endOfLine.renderer
    | .vblank => d.endOfLine.renderer := by
  unfold Devices.modeEnd
  cases d.display.mode <;> simp

end Sys2Proof.Machine
end

