-- ==== Sys2Proof/Laws/Memory.lean ====
section
/-!
SUPPORT. The laws of memory: a read after a write to the same key gives the value written, a write leaves every other key alone,
and every write keeps the canonical form and the keys of the block's storage.
-/

namespace Sys2Proof.Machine

@[simp] theorem Memory.read_nil (a : Nat) : Memory.read [] a = Memory.unlisted a := rfl

/-- A key below every listed key is unlisted. -/
theorem Memory.read_unlisted {m : Memory} {a : Nat} (h : ∀ x ∈ m, a ≠ x.1) : m.read a = Memory.unlisted a := by
  induction m with
  | nil => rfl
  | cons x m ih =>
    obtain ⟨k, w⟩ := x
    have hk : k ≠ a := fun e => h (k, w) (by simp) e.symm
    simp only [Memory.read, hk, if_false]
    exact ih fun y hy => h y (by simp [hy])

/-- A write leaves every other key alone. -/
theorem Memory.read_write_ne (m : Memory) (a b : Nat) (v : Byte) (h : b ≠ a) : (m.write a v).read b = m.read b := by
  induction m with
  | nil => simp only [Memory.write]; split <;> simp [Memory.read, Ne.symm h]
  | cons x m ih =>
    obtain ⟨k, w⟩ := x
    simp only [Memory.write]
    split
    · split <;> simp [Memory.read, Ne.symm h]
    · split
      · rename_i hk
        subst hk
        split <;> simp [Memory.read, Ne.symm h]
      · simp [Memory.read, ih]

/-- A read after a write to the same key gives the value written, on a memory in canonical form. -/
theorem Memory.read_write_same (m : Memory) (a : Nat) (v : Byte) (hm : m.wf) : (m.write a v).read a = v := by
  induction m with
  | nil => simp only [Memory.write]; split <;> simp_all [Memory.read]
  | cons x m ih =>
    obtain ⟨k, w⟩ := x
    obtain ⟨hs, hf⟩ := hm
    rw [List.pairwise_cons] at hs
    simp only [Memory.write]
    split
    · rename_i hlt
      split
      · rename_i hv
        rw [hv, Memory.read_unlisted]
        intro y hy
        rcases List.mem_cons.1 hy with rfl | hy
        · exact Nat.ne_of_lt hlt
        · exact Nat.ne_of_lt (Nat.lt_trans hlt (hs.1 y hy))
      · simp [Memory.read]
    · split
      · rename_i hk
        subst hk
        split
        · rename_i hv
          rw [hv, Memory.read_unlisted]
          exact fun y hy => Nat.ne_of_lt (hs.1 y hy)
        · simp [Memory.read]
      · rename_i hk
        simp only [Memory.read, Ne.symm hk, if_false]
        exact ih ⟨hs.2, fun y hy => hf y (by simp [hy])⟩

/-- The keys listed after a write are among those listed before it and the key written. -/
theorem Memory.mem_write {m : Memory} {a : Nat} {v : Byte} {x : Host.Cell} (h : x ∈ m.write a v) :
    x ∈ m ∨ (x = (a, v) ∧ v ≠ Memory.unlisted a) := by
  induction m with
  | nil =>
    simp only [Memory.write] at h
    split at h
    · simp at h
    · rename_i hv; exact .inr ⟨by simpa using h, hv⟩
  | cons y m ih =>
    obtain ⟨k, w⟩ := y
    simp only [Memory.write] at h
    split at h
    · split at h
      · exact .inl h
      · rename_i hv
        rcases List.mem_cons.1 h with h | h
        · exact .inr ⟨h, hv⟩
        · exact .inl h
    · split at h
      · split at h
        · exact .inl (by simp [h])
        · rename_i hv
          rcases List.mem_cons.1 h with h | h
          · exact .inr ⟨h, hv⟩
          · exact .inl (by simp [h])
      · rcases List.mem_cons.1 h with h | h
        · exact .inl (by simp [h])
        · rcases ih h with h | h
          · exact .inl (by simp [h])
          · exact .inr h

/-- A write keeps the canonical form. -/
theorem Memory.wf_write (m : Memory) (a : Nat) (v : Byte) (hm : m.wf) : (m.write a v).wf := by
  refine ⟨?_, fun x hx => ?_⟩
  · obtain ⟨hs, -⟩ := hm
    induction m with
    | nil => simp only [Memory.write]; split <;> simp
    | cons x m ih =>
      obtain ⟨k, w⟩ := x
      rw [List.pairwise_cons] at hs
      simp only [Memory.write]
      split
      · rename_i hlt
        split
        · exact List.pairwise_cons.2 hs
        · refine List.pairwise_cons.2 ⟨fun y hy => ?_, List.pairwise_cons.2 hs⟩
          rcases List.mem_cons.1 hy with rfl | hy
          · exact hlt
          · exact Nat.lt_trans hlt (hs.1 y hy)
      · split
        · rename_i hk
          subst hk
          split
          · exact hs.2
          · exact List.pairwise_cons.2 hs
        · rename_i hge hne
          refine List.pairwise_cons.2 ⟨fun y hy => ?_, ih hs.2⟩
          rcases Memory.mem_write hy with hy | ⟨rfl, -⟩
          · exact hs.1 y hy
          · show k < a
            omega
  · rcases Memory.mem_write hx with hx | ⟨rfl, hv⟩
    · exact hm.2 x hx
    · exact hv

/-- A write to a storage key keeps the listed keys storage. -/
theorem Memory.inStorage_write (m : Memory) (a : Nat) (v : Byte) (ha : isStorage a = true) (hm : m.inStorage) :
    (m.write a v).inStorage := by
  intro x hx
  rcases Memory.mem_write hx with hx | ⟨rfl, -⟩
  · exact hm x hx
  · exact ha

end Sys2Proof.Machine
end

