-- ==== Sys2Proof/Laws/Router.lean ====
section
/-!
SUPPORT. What a bus access can do: a write changes only memory, the peripheral registers and the collaborators' logs; memory only at
the keys of the address written; the read depends on nothing else; and a write keeps every part of the invariant.
-/

namespace Sys2Proof.Machine

/-! ### OAM DMA -/

/-- The copy changes memory alone. -/
theorem dmaCopy_eq (v : Byte) (n : Nat) (s : State) : dmaCopy v n s = { s with mem := (dmaCopy v n s).mem } := by
  induction n with
  | zero => rfl
  | succ n ih => rw [dmaCopy, ih]

theorem writeDma_eq (v : Byte) (s : State) : ∃ m, writeDma v s = { s with dma := v, mem := m } :=
  ⟨(dmaCopy v 160 { s with dma := v }).mem, dmaCopy_eq v 160 _⟩

/-- The copy leaves every byte outside the first `n` of OAM alone. -/
theorem dmaCopy_mem_ne (v : Byte) (n : Nat) (s : State) (k : Nat) (h : ∀ i, i < n → k ≠ 0xFE00 + i) :
    (dmaCopy v n s).mem.read k = s.mem.read k := by
  induction n with
  | zero => rfl
  | succ n ih =>
    rw [dmaCopy]
    rw [Memory.read_write_ne _ _ _ _ (h n (by omega))]
    exact ih fun i hi => h i (by omega)

/-- No source address of the copy is in OAM or in the unusable range (R131). -/
theorem dmaSource_toNat (v : Byte) (n : Nat) (hn : n < 160) : (dmaSource v n).toNat =
    256 * (if v.toNat < 0xE0 then v.toNat else v.toNat - 0x20) + n := by
  have hv := v.isLt
  have h0 : (v ++ 0#8 : Word).toNat = 256 * v.toNat := by
    rw [BitVec.toNat_append]; simp [Nat.shiftLeft_eq]; omega
  have h1 : ((v ++ 0#8 : Word) + BitVec.ofNat 16 n).toNat = 256 * v.toNat + n := by
    rw [BitVec.toNat_add, h0, BitVec.toNat_ofNat]; omega
  have h2 : 0xE0 ≤ v ↔ ¬ v.toNat < 0xE0 := by rw [BitVec.le_def]; show 0xE0 ≤ v.toNat ↔ _; omega
  unfold dmaSource
  dsimp only
  by_cases h : v.toNat < 0xE0
  · rw [if_neg (fun hc => h2.1 hc h), if_pos h, h1]
  · rw [if_pos (h2.2 h), if_neg h, BitVec.toNat_sub, h1]
    show (2 ^ 16 - 0x2000 + _) % 2 ^ 16 = _
    omega

/-! ### The address map -/

/-- The first address of a region (R110). -/
def Region.first (r : Region) : Nat :=
  match r with
  | .rom => 0
  | .vram => 0x8000
  | .cartRam => 0xA000
  | .wram => 0xC000
  | .echo => 0xE000
  | .oam => 0xFE00
  | .unusable => 0xFEA0
  | .io => 0xFF00
  | .hram => 0xFF80
  | .ie => 0xFFFF

/-- The address after the last one of a region (R110). -/
def Region.last (r : Region) : Nat :=
  match r with
  | .rom => 0x8000
  | .vram => 0xA000
  | .cartRam => 0xC000
  | .wram => 0xE000
  | .echo => 0xFE00
  | .oam => 0xFEA0
  | .unusable => 0xFF00
  | .io => 0xFF80
  | .hram => 0xFFFF
  | .ie => 0x10000

theorem region_toNat (a : Word) : region a =
    if a.toNat < 0x8000 then .rom else if a.toNat < 0xA000 then .vram else if a.toNat < 0xC000 then .cartRam
    else if a.toNat < 0xE000 then .wram else if a.toNat < 0xFE00 then .echo else if a.toNat < 0xFEA0 then .oam
    else if a.toNat < 0xFF00 then .unusable else if a.toNat < 0xFF80 then .io else if a.toNat < 0xFFFF then .hram
    else .ie := rfl

/-- An address lies in its region. -/
theorem region_bounds (a : Word) : (region a).first ≤ a.toNat ∧ a.toNat < (region a).last := by
  have hlt : a.toNat < 65536 := a.isLt
  rw [region_toNat]
  generalize a.toNat = n at hlt
  split_ifs <;> simp only [Region.first, Region.last] <;> omega

/-- The regions do not overlap: an address within a region's bounds is of that region. -/
theorem region_of_bounds (a : Word) (r : Region) (h1 : r.first ≤ a.toNat) (h2 : a.toNat < r.last) : region a = r := by
  rw [region_toNat]
  generalize a.toNat = n at h1 h2
  cases r <;> simp only [Region.first, Region.last] at h1 h2 <;> split_ifs <;> first | rfl | (exfalso; omega)

/-! ### The shape of a write -/

/-- `t` differs from `s` at most in what the bus reaches: IE, the devices, the input, serial and DMA registers, memory and the
collaborators' logs. -/
def busOnly (s t : State) : Prop :=
  t = { s with
    ie := t.ie, dev := t.dev, joypad := t.joypad, serial := t.serial, dma := t.dma, mem := t.mem
    mapperLog := t.mapperLog, apuLog := t.apuLog }

theorem busOnly.eq {s t : State} (h : busOnly s t) : t = { s with
    ie := t.ie, dev := t.dev, joypad := t.joypad, serial := t.serial, dma := t.dma, mem := t.mem
    mapperLog := t.mapperLog, apuLog := t.apuLog } := h

theorem writeIoReg_busOnly (r : IoReg) (a : Word) (v : Byte) (s : State) : busOnly s (writeIoReg r a v s) := by
  cases r with
  | audio => unfold writeIoReg apuWrite; dsimp only; split <;> rfl
  | dma =>
    obtain ⟨m, hm⟩ := writeDma_eq v s
    show busOnly s (writeDma v s)
    rw [hm]; rfl
  | _ => rfl

/-- A bus write changes only what the bus reaches. -/
theorem routeWrite_busOnly (a : Word) (v : Byte) (s : State) : busOnly s (routeWrite a v s) := by
  unfold routeWrite
  cases region a with
  | rom | cartRam => unfold mapperWrite; dsimp only; split <;> rfl
  | vram | oam => dsimp only; split <;> rfl
  | io => exact writeIoReg_busOnly _ a v s
  | _ => rfl

@[simp] theorem routeWrite_regs (a : Word) (v : Byte) (s : State) : (routeWrite a v s).regs = s.regs := by
  rw [(routeWrite_busOnly a v s).eq]
@[simp] theorem routeWrite_ime (a : Word) (v : Byte) (s : State) : (routeWrite a v s).ime = s.ime := by
  rw [(routeWrite_busOnly a v s).eq]
@[simp] theorem routeWrite_imeState (a : Word) (v : Byte) (s : State) : (routeWrite a v s).imeState = s.imeState := by
  rw [(routeWrite_busOnly a v s).eq]
@[simp] theorem routeWrite_halt (a : Word) (v : Byte) (s : State) : (routeWrite a v s).halt = s.halt := by
  rw [(routeWrite_busOnly a v s).eq]
@[simp] theorem routeWrite_fault (a : Word) (v : Byte) (s : State) : (routeWrite a v s).fault = s.fault := by
  rw [(routeWrite_busOnly a v s).eq]
@[simp] theorem routeWrite_stepCycles (a : Word) (v : Byte) (s : State) :
    (routeWrite a v s).stepCycles = s.stepCycles := by
  rw [(routeWrite_busOnly a v s).eq]
@[simp] theorem routeWrite_budget (a : Word) (v : Byte) (s : State) : (routeWrite a v s).budget = s.budget := by
  rw [(routeWrite_busOnly a v s).eq]
@[simp] theorem routeWrite_opPc (a : Word) (v : Byte) (s : State) : (routeWrite a v s).opPc = s.opPc := by
  rw [(routeWrite_busOnly a v s).eq]
@[simp] theorem routeWrite_params (a : Word) (v : Byte) (s : State) : (routeWrite a v s).params = s.params := by
  rw [(routeWrite_busOnly a v s).eq]

/-! ### Reads depend on the bus alone -/

/-- Two states with the same memory, registers of the bus and parameters read alike. -/
theorem routeReadWith_congr {s t : State} (locks : Bool) (a : Word) (hm : t.mem = s.mem) (hd : t.dev = s.dev)
    (hi : t.ie = s.ie) (hj : t.joypad = s.joypad) (hs : t.serial = s.serial) (hdma : t.dma = s.dma)
    (hml : t.mapperLog = s.mapperLog) (hal : t.apuLog = s.apuLog) (hp : t.params = s.params) :
    routeReadWith locks a t = routeReadWith locks a s := by
  unfold routeReadWith ioRead
  have hmap : mapperRead a t = mapperRead a s := by unfold mapperRead; rw [hm, hml, hp]
  have hio : readIoReg (ioRegAt a) a t = readIoReg (ioRegAt a) a s := by
    generalize ioRegAt a = r
    cases r <;> simp only [readIoReg, apuRead, hd, hj, hs, hdma, hal, hp]
  rw [hmap, hio, hm, hi, State.vramLocked, State.oamLocked, hd, hp]
  rfl

/-- A read does not see the CPU's registers or its step accounting. -/
@[simp] theorem routeRead_withRegs (a : Word) (s : State) (r : Regs) : routeRead a { s with regs := r } = routeRead a s :=
  routeReadWith_congr true a rfl rfl rfl rfl rfl rfl rfl rfl rfl

/-! ### Which bytes a write changes -/

/-- Only FF46 is the DMA register (R50). -/
theorem ioRegAt_dma {a : Word} (hr : region a = .io) (h : ioRegAt a = .dma) : a = 0xFF46 := by
  have hb := region_bounds a
  rw [hr] at hb
  have h46 : a.toNat - 0xFF00 = 0x46 := by
    unfold ioRegAt at h
    generalize a.toNat - 0xFF00 = n at h
    unfold ioReg at h
    split at h <;> first | rfl | (exact absurd h (by simp)) | (split at h <;> exact absurd h (by simp))
  apply BitVec.eq_of_toNat_eq
  show a.toNat = 0xFF46
  have : 0xFF00 ≤ a.toNat := hb.1
  omega

/-- A read at a register's address is a read of the register (R110, R50). -/
theorem routeRead_io {a : Word} {r : IoReg} (s : State) (hr : region a = .io) (h : ioRegAt a = r) :
    routeRead a s = readIoReg r a s := by
  unfold routeRead routeReadWith ioRead
  rw [hr, h]

/-- A write at a register's address is a write of the register (R110, R50). -/
theorem routeWrite_io {a : Word} {r : IoReg} (v : Byte) (s : State) (hr : region a = .io) (h : ioRegAt a = r) :
    routeWrite a v s = writeIoReg r a v s := by
  unfold routeWrite ioWrite
  rw [hr, h]

theorem writeIoReg_mem (r : IoReg) (a : Word) (v : Byte) (s : State) (h : r ≠ .dma) : (writeIoReg r a v s).mem = s.mem := by
  cases r with
  | audio => unfold writeIoReg apuWrite; dsimp only; split <;> rfl
  | dma => exact absurd rfl h
  | _ => rfl

/-- The key of a RAM address is RAM of the block. -/
theorem isStorage_of_region {a : Word} {k : Nat} (h : storageKey a = some k) (hr : region a ≠ .rom) :
    0x8000 ≤ k ∧ isStorage k = true ∧ a ≠ 0xFF46 := by
  have hb := region_bounds a
  have hs : ∀ n, isStorage n = true ↔
      n < 0xA000 ∨ (0xC000 ≤ n ∧ n < 0xE000) ∨ (0xFE00 ≤ n ∧ n < 0xFEA0) ∨ (0xFF80 ≤ n ∧ n < 0xFFFF) := by
    intro n; unfold isStorage; simp only [Bool.or_eq_true, Bool.and_eq_true, decide_eq_true_eq, or_assoc]
  have hne : ∀ n, a.toNat = n → n ≠ 0xFF46 → a ≠ 0xFF46 := fun n h1 h2 e => h2 (by rw [← h1, e]; rfl)
  rw [hs]
  unfold storageKey at h
  generalize hn : a.toNat = n at h hb hne
  have hne := hne n rfl
  cases hreg : region a <;> rw [hreg] at h hb <;> simp only [Region.first, Region.last] at hb <;>
    first
    | (exact absurd hreg hr)
    | (simp only [reduceCtorEq] at h; done)
    | (injection h with h; subst h; exact ⟨by omega, by omega, hne (by omega)⟩)

/-- Memory after a write: untouched, one byte stored at the address's own key, or the OAM copy. -/
theorem routeWrite_mem (a : Word) (v : Byte) (s : State) :
    (routeWrite a v s).mem = s.mem ∨
    (∃ k, storageKey a = some k ∧ 0x8000 ≤ k ∧ isStorage k = true ∧ a ≠ 0xFF46 ∧ (routeWrite a v s).mem = s.mem.write k v) ∨
    (a = 0xFF46 ∧ routeWrite a v s = writeDma v s) := by
  have ram : ∀ k, storageKey a = some k → region a ≠ .rom → (routeWrite a v s).mem = s.mem.write k v →
      ∃ k, storageKey a = some k ∧ 0x8000 ≤ k ∧ isStorage k = true ∧ a ≠ 0xFF46 ∧
        (routeWrite a v s).mem = s.mem.write k v := fun k h1 h2 h3 =>
    have h4 := isStorage_of_region h1 h2
    ⟨k, h1, h4.1, h4.2.1, h4.2.2, h3⟩
  unfold routeWrite storageKey at *
  cases h : region a with
  | rom | cartRam => left; unfold mapperWrite; dsimp only; split <;> rfl
  | unusable | ie => left; rfl
  | io =>
    dsimp only
    unfold ioWrite
    by_cases hd : ioRegAt a = .dma
    · exact .inr (.inr ⟨ioRegAt_dma h hd, by rw [hd]; rfl⟩)
    · exact .inl (writeIoReg_mem _ a v s hd)
  | wram | hram | echo =>
    right; left
    simp only [h] at ram
    exact ram _ rfl (by simp) rfl
  | vram | oam =>
    simp only [h] at ram
    dsimp only at ram ⊢
    split
    · left; rfl
    · rename_i hl
      rw [if_neg hl] at ram
      right; left
      exact ram _ rfl (by simp) rfl

/-- A write changes no byte of memory outside the keys of its address. -/
theorem routeWrite_keepsMem (a : Word) (v : Byte) (s : State) : keepsMem (storedKeys a) s (routeWrite a v s) := by
  intro k hk
  rcases routeWrite_mem a v s with h | ⟨k', hk', h8, -, hne, h⟩ | ⟨rfl, h⟩
  · rw [h]
  · rw [h]
    refine Memory.read_write_ne _ _ _ _ fun e => hk ?_
    subst e
    have hrom : ¬ a.toNat < 0x8000 := by
      intro hr
      have : storageKey a = some a.toNat := by unfold storageKey; rw [region_of_bounds a .rom (Nat.zero_le _) hr]
      rw [this] at hk'; injection hk' with hk'; omega
    rw [storedKeys, if_neg hne, if_neg hrom, hk']; exact List.mem_singleton.2 rfl
  · rw [h]
    unfold writeDma
    rw [dmaCopy_mem_ne]
    intro i hi e
    exact hk (by simp [storedKeys]; exact ⟨i, hi, e.symm⟩)

/-! ### A write keeps the invariant -/

theorem dmaCopy_memOk (v : Byte) (n : Nat) (s : State) (hn : n ≤ 160) (h : s.memOk) : (dmaCopy v n s).memOk := by
  induction n with
  | zero => exact h
  | succ n ih =>
    rw [dmaCopy]
    have := ih (by omega)
    exact ⟨Memory.wf_write _ _ _ this.1, Memory.inStorage_write _ _ _ (by simp [isStorage]; omega) this.2⟩

/-- A write keeps memory in canonical form over the block's storage. -/
theorem routeWrite_memOk (a : Word) (v : Byte) (s : State) (h : s.memOk) : (routeWrite a v s).memOk := by
  unfold State.memOk
  rcases routeWrite_mem a v s with hm | ⟨k, -, -, hk, -, hm⟩ | ⟨-, hm⟩
  · rw [hm]; exact h
  · rw [hm]; exact ⟨Memory.wf_write _ _ _ h.1, Memory.inStorage_write _ _ _ hk h.2⟩
  · rw [hm]; exact dmaCopy_memOk v 160 _ (by omega) h

/-- What a write can do to the devices: nothing, or one of the register writes of R50. -/
inductive DevWrite (v : Byte) (d : Devices) : Devices → Prop where
  | same : DevWrite v d d
  | div : DevWrite v d d.writeDiv
  | tima (x : Byte) : DevWrite v d { d with timer := { d.timer with tima := x } }
  | tma (x : Byte) : DevWrite v d { d with timer := { d.timer with tma := x } }
  | tac : DevWrite v d (d.writeTac v)
  | ifr (x : BitVec 5) : DevWrite v d { d with ifr := x }
  | lcdc : DevWrite v d (d.writeLcdc v)
  | lyc : DevWrite v d (d.writeLyc v)
  /-- STAT's enables, or a register that only the renderer reads. -/
  | store (e : Display) (h : e.lcdc = d.display.lcdc ∧ e.coincidence = d.display.coincidence ∧ e.mode = d.display.mode ∧
      e.dots = d.display.dots ∧ e.ly = d.display.ly ∧ e.lyc = d.display.lyc) : DevWrite v d { d with display := e }

theorem writeIoReg_dev (r : IoReg) (a : Word) (v : Byte) (s : State) : DevWrite v s.dev (writeIoReg r a v s).dev := by
  cases r with
  | audio => unfold writeIoReg apuWrite; dsimp only; split <;> exact .same
  | dma =>
    obtain ⟨m, hm⟩ := writeDma_eq v s
    show DevWrite v s.dev (writeDma v s).dev
    rw [hm]; exact .same
  | div => exact .div
  | tima => exact .tima v
  | tma => exact .tma v
  | tac => exact .tac
  | ifReg => exact .ifr _
  | lcdc => exact .lcdc
  | lyc => exact .lyc
  | stat | scy | scx | bgp | obp0 | obp1 | wy | wx => exact .store _ ⟨rfl, rfl, rfl, rfl, rfl, rfl⟩
  | _ => exact .same

theorem routeWrite_dev (a : Word) (v : Byte) (s : State) : DevWrite v s.dev (routeWrite a v s).dev := by
  unfold routeWrite
  cases region a with
  | rom | cartRam => unfold mapperWrite; dsimp only; split <;> exact .same
  | vram | oam => dsimp only; split <;> exact .same
  | io => exact writeIoReg_dev _ a v s
  | _ => exact .same

@[simp] theorem writeLcdc_timer (v : Byte) (d : Devices) : (d.writeLcdc v).timer = d.timer := by
  unfold Devices.writeLcdc
  dsimp only
  split
  · rfl
  · split
    · rw [coincide_timer]
    · rfl

/-- A write keeps the edge detector right (R41, R443, R444). -/
theorem DevWrite.edgeOk {v : Byte} {d e : Devices} (w : DevWrite v d e) (h : d.timer.edgeOk) : e.timer.edgeOk := by
  cases w with
  | div => exact timerEdge_edgeOk _ _
  | tac => exact timerEdge_edgeOk _ _
  | lcdc => rw [writeLcdc_timer]; exact h
  | _ => exact h

/-- An LCDC write keeps the display's timing state in range (R456). -/
theorem writeLcdc_display_ok (v : Byte) (d : Devices) (h : d.display.ok) : (d.writeLcdc v).display.ok := by
  obtain ⟨hc, hly, hrest⟩ := h
  unfold Devices.writeLcdc
  dsimp only
  split
  · rename_i hoff
    simp at hoff
    refine ⟨rfl, (by decide : (0 : Byte).toNat < 154), ?_⟩
    have : ¬ Display.on { d.display with lcdc := v, ly := 0, mode := .hblank, coincidence := 0 == d.display.lyc } = true := by
      show ¬ v.getLsbD 7 = true; simpa [Display.on] using hoff.2
    rw [if_neg this]; exact ⟨rfl, rfl⟩
  · rename_i hoff
    split
    · rename_i hon
      simp at hon
      rw [coincide_display]
      refine ⟨rfl, (by decide : (0 : Byte).toNat < 154), ?_⟩
      have : Display.on { d.display with lcdc := v, ly := 0, mode := .oamSearch, dots := 80, coincidence := 0 == d.display.lyc } = true := by
        show v.getLsbD 7 = true; simpa [Display.on] using hon.2
      rw [if_pos this]
      exact ⟨by simp, by simp, by simp [Mode.length]⟩
    · rename_i hon
      have hs : Display.on { d.display with lcdc := v } = d.display.on := by
        simp at hoff hon
        cases h1 : d.display.on <;> cases h2 : Display.on { d.display with lcdc := v } <;> simp_all
      refine ⟨hc, hly, ?_⟩
      rw [hs]; exact hrest

/-- A write keeps the display's timing state in range. -/
theorem DevWrite.display_ok {v : Byte} {d e : Devices} (w : DevWrite v d e) (h : d.display.ok) : e.display.ok := by
  cases w with
  | div => unfold Devices.writeDiv; rw [timerEdge_display]; exact h
  | tac => unfold Devices.writeTac; rw [timerEdge_display]; exact h
  | lcdc => exact writeLcdc_display_ok v d h
  | lyc => exact ⟨rfl, h.2⟩
  | store e' he =>
    obtain ⟨h1, h2, h3, h4, h5, h6⟩ := he
    obtain ⟨hc, hly, hrest⟩ := h
    refine ⟨by show e'.coincidence = (e'.ly == e'.lyc); rw [h2, h5, h6]; exact hc, by show e'.ly.toNat < 154; rw [h5]; exact hly, ?_⟩
    have hon : e'.on = d.display.on := by unfold Display.on; rw [h1]
    show if e'.on then _ else _
    rw [hon, h3, h4, h5]; exact hrest
  | _ => exact h

/-! ### A write to plain memory -/

/-- A write to an address that is no register leaves the devices and the registers of the bus alone. -/
theorem routeWrite_keepsPeripherals (a : Word) (v : Byte) (s : State) (h : isRegister a = false) :
    (routeWrite a v s).dev = s.dev ∧ keepsPeripherals s (routeWrite a v s) := by
  unfold routeWrite
  unfold isRegister at h
  cases hr : region a with
  | rom | cartRam => unfold mapperWrite; dsimp only; split <;> exact ⟨rfl, rfl, rfl, rfl, rfl, rfl⟩
  | vram | oam => dsimp only; split <;> exact ⟨rfl, rfl, rfl, rfl, rfl, rfl⟩
  | io => rw [hr] at h; exact absurd h (by decide)
  | ie => rw [hr] at h; exact absurd h (by decide)
  | _ => exact ⟨rfl, rfl, rfl, rfl, rfl, rfl⟩

theorem writeIoReg_mapperLog (r : IoReg) (a : Word) (v : Byte) (s : State) :
    (writeIoReg r a v s).mapperLog = s.mapperLog := by
  cases r with
  | audio => unfold writeIoReg apuWrite; dsimp only; split <;> rfl
  | dma =>
    obtain ⟨m, hm⟩ := writeDma_eq v s
    show (writeDma v s).mapperLog = _
    rw [hm]
  | _ => rfl

/-- A write to an address that is not the cartridge's leaves the mapper's state alone. -/
theorem routeWrite_mapperLog (a : Word) (v : Byte) (s : State) (h : isCartridge a = false) :
    (routeWrite a v s).mapperLog = s.mapperLog := by
  unfold routeWrite
  unfold isCartridge at h
  cases hr : region a with
  | rom => rw [hr] at h; exact absurd h (by decide)
  | cartRam => rw [hr] at h; exact absurd h (by decide)
  | vram | oam => dsimp only; split <;> rfl
  | io => exact writeIoReg_mapperLog _ a v s
  | _ => rfl

/-! ### Open RAM -/

/-- The memory key of an address of work RAM, its mirror or high RAM. -/
def openKey (a : Word) : Nat := if region a = .echo then a.toNat - 0x2000 else a.toNat

theorem routeRead_open (a : Word) (s : State) (h : isOpenRam a = true) : routeRead a s = s.mem.read (openKey a) := by
  unfold isOpenRam at h
  unfold routeRead routeReadWith openKey
  cases hr : region a <;> rw [hr] at h <;> first | (simp at h; done) | simp

theorem routeWrite_open (a : Word) (v : Byte) (s : State) (h : isOpenRam a = true) :
    routeWrite a v s = { s with mem := s.mem.write (openKey a) v } := by
  unfold isOpenRam at h
  unfold routeWrite openKey
  cases hr : region a <;> rw [hr] at h <;> first | (simp at h; done) | simp

/-- A byte stored under another key does not change what is read. -/
theorem routeRead_write_ne (b : Word) (k : Nat) (v : Byte) (s : State) (hk : ∀ k', storageKey b = some k' → k' ≠ k) :
    routeRead b { s with mem := s.mem.write k v } = routeRead b s := by
  unfold routeRead routeReadWith
  unfold storageKey at hk
  cases hr : region b <;> rw [hr] at hk <;> simp only [Option.some.injEq, forall_eq'] at hk <;> dsimp only
  · unfold mapperRead
    dsimp only
    rw [Memory.read_write_ne _ _ _ _ hk]
  · rw [Memory.read_write_ne _ _ _ _ hk]
    rfl
  · unfold mapperRead
    dsimp only
    have hb := region_bounds b
    rw [hr] at hb
    simp only [Region.first] at hb
    rw [if_neg (by omega), if_neg (by omega)]
  · rw [Memory.read_write_ne _ _ _ _ hk]
  · rw [Memory.read_write_ne _ _ _ _ hk]
  · rw [Memory.read_write_ne _ _ _ _ hk]
    rfl
  · unfold ioRead
    cases ioRegAt b <;> rfl
  · rw [Memory.read_write_ne _ _ _ _ hk]

end Sys2Proof.Machine
end

