-- ==== Sys2Proof/Laws/State.lean ====
section
/-!
SUPPORT. One lemma per field per update of State, so that no proof unfolds a record update; and the laws of the register file.
-/

namespace Sys2Proof.Machine

/-! `setReg` -/

@[simp] theorem setReg_ime (s : State) (r : R8) (v : Byte) : (s.setReg r v).ime = s.ime := by cases r <;> rfl
@[simp] theorem setReg_imeState (s : State) (r : R8) (v : Byte) : (s.setReg r v).imeState = s.imeState := by cases r <;> rfl
@[simp] theorem setReg_halt (s : State) (r : R8) (v : Byte) : (s.setReg r v).halt = s.halt := by cases r <;> rfl
@[simp] theorem setReg_fault (s : State) (r : R8) (v : Byte) : (s.setReg r v).fault = s.fault := by cases r <;> rfl
@[simp] theorem setReg_ie (s : State) (r : R8) (v : Byte) : (s.setReg r v).ie = s.ie := by cases r <;> rfl
@[simp] theorem setReg_dev (s : State) (r : R8) (v : Byte) : (s.setReg r v).dev = s.dev := by cases r <;> rfl
@[simp] theorem setReg_joypad (s : State) (r : R8) (v : Byte) : (s.setReg r v).joypad = s.joypad := by cases r <;> rfl
@[simp] theorem setReg_serial (s : State) (r : R8) (v : Byte) : (s.setReg r v).serial = s.serial := by cases r <;> rfl
@[simp] theorem setReg_dma (s : State) (r : R8) (v : Byte) : (s.setReg r v).dma = s.dma := by cases r <;> rfl
@[simp] theorem setReg_mem (s : State) (r : R8) (v : Byte) : (s.setReg r v).mem = s.mem := by cases r <;> rfl
@[simp] theorem setReg_mapperLog (s : State) (r : R8) (v : Byte) : (s.setReg r v).mapperLog = s.mapperLog := by cases r <;> rfl
@[simp] theorem setReg_apuLog (s : State) (r : R8) (v : Byte) : (s.setReg r v).apuLog = s.apuLog := by cases r <;> rfl
@[simp] theorem setReg_stepCycles (s : State) (r : R8) (v : Byte) : (s.setReg r v).stepCycles = s.stepCycles := by cases r <;> rfl
@[simp] theorem setReg_budget (s : State) (r : R8) (v : Byte) : (s.setReg r v).budget = s.budget := by cases r <;> rfl
@[simp] theorem setReg_opPc (s : State) (r : R8) (v : Byte) : (s.setReg r v).opPc = s.opPc := by cases r <;> rfl
@[simp] theorem setReg_params (s : State) (r : R8) (v : Byte) : (s.setReg r v).params = s.params := by cases r <;> rfl

/-! `setPair` -/

@[simp] theorem setPair_ime (s : State) (p : R16) (v : Word) : (s.setPair p v).ime = s.ime := by cases p <;> rfl
@[simp] theorem setPair_imeState (s : State) (p : R16) (v : Word) : (s.setPair p v).imeState = s.imeState := by cases p <;> rfl
@[simp] theorem setPair_halt (s : State) (p : R16) (v : Word) : (s.setPair p v).halt = s.halt := by cases p <;> rfl
@[simp] theorem setPair_fault (s : State) (p : R16) (v : Word) : (s.setPair p v).fault = s.fault := by cases p <;> rfl
@[simp] theorem setPair_ie (s : State) (p : R16) (v : Word) : (s.setPair p v).ie = s.ie := by cases p <;> rfl
@[simp] theorem setPair_dev (s : State) (p : R16) (v : Word) : (s.setPair p v).dev = s.dev := by cases p <;> rfl
@[simp] theorem setPair_joypad (s : State) (p : R16) (v : Word) : (s.setPair p v).joypad = s.joypad := by cases p <;> rfl
@[simp] theorem setPair_serial (s : State) (p : R16) (v : Word) : (s.setPair p v).serial = s.serial := by cases p <;> rfl
@[simp] theorem setPair_dma (s : State) (p : R16) (v : Word) : (s.setPair p v).dma = s.dma := by cases p <;> rfl
@[simp] theorem setPair_mem (s : State) (p : R16) (v : Word) : (s.setPair p v).mem = s.mem := by cases p <;> rfl
@[simp] theorem setPair_mapperLog (s : State) (p : R16) (v : Word) : (s.setPair p v).mapperLog = s.mapperLog := by cases p <;> rfl
@[simp] theorem setPair_apuLog (s : State) (p : R16) (v : Word) : (s.setPair p v).apuLog = s.apuLog := by cases p <;> rfl
@[simp] theorem setPair_stepCycles (s : State) (p : R16) (v : Word) : (s.setPair p v).stepCycles = s.stepCycles := by cases p <;> rfl
@[simp] theorem setPair_budget (s : State) (p : R16) (v : Word) : (s.setPair p v).budget = s.budget := by cases p <;> rfl
@[simp] theorem setPair_opPc (s : State) (p : R16) (v : Word) : (s.setPair p v).opPc = s.opPc := by cases p <;> rfl
@[simp] theorem setPair_params (s : State) (p : R16) (v : Word) : (s.setPair p v).params = s.params := by cases p <;> rfl

/-! `setStkPair` -/

@[simp] theorem setStkPair_ime (s : State) (p : RStk) (v : Word) : (s.setStkPair p v).ime = s.ime := by cases p <;> rfl
@[simp] theorem setStkPair_imeState (s : State) (p : RStk) (v : Word) : (s.setStkPair p v).imeState = s.imeState := by cases p <;> rfl
@[simp] theorem setStkPair_halt (s : State) (p : RStk) (v : Word) : (s.setStkPair p v).halt = s.halt := by cases p <;> rfl
@[simp] theorem setStkPair_fault (s : State) (p : RStk) (v : Word) : (s.setStkPair p v).fault = s.fault := by cases p <;> rfl
@[simp] theorem setStkPair_ie (s : State) (p : RStk) (v : Word) : (s.setStkPair p v).ie = s.ie := by cases p <;> rfl
@[simp] theorem setStkPair_dev (s : State) (p : RStk) (v : Word) : (s.setStkPair p v).dev = s.dev := by cases p <;> rfl
@[simp] theorem setStkPair_joypad (s : State) (p : RStk) (v : Word) : (s.setStkPair p v).joypad = s.joypad := by cases p <;> rfl
@[simp] theorem setStkPair_serial (s : State) (p : RStk) (v : Word) : (s.setStkPair p v).serial = s.serial := by cases p <;> rfl
@[simp] theorem setStkPair_dma (s : State) (p : RStk) (v : Word) : (s.setStkPair p v).dma = s.dma := by cases p <;> rfl
@[simp] theorem setStkPair_mem (s : State) (p : RStk) (v : Word) : (s.setStkPair p v).mem = s.mem := by cases p <;> rfl
@[simp] theorem setStkPair_mapperLog (s : State) (p : RStk) (v : Word) : (s.setStkPair p v).mapperLog = s.mapperLog := by cases p <;> rfl
@[simp] theorem setStkPair_apuLog (s : State) (p : RStk) (v : Word) : (s.setStkPair p v).apuLog = s.apuLog := by cases p <;> rfl
@[simp] theorem setStkPair_stepCycles (s : State) (p : RStk) (v : Word) : (s.setStkPair p v).stepCycles = s.stepCycles := by cases p <;> rfl
@[simp] theorem setStkPair_budget (s : State) (p : RStk) (v : Word) : (s.setStkPair p v).budget = s.budget := by cases p <;> rfl
@[simp] theorem setStkPair_opPc (s : State) (p : RStk) (v : Word) : (s.setStkPair p v).opPc = s.opPc := by cases p <;> rfl
@[simp] theorem setStkPair_params (s : State) (p : RStk) (v : Word) : (s.setStkPair p v).params = s.params := by cases p <;> rfl

/-! `setPc` -/

@[simp] theorem setPc_ime (s : State) (v : Word) : (s.setPc v).ime = s.ime := rfl
@[simp] theorem setPc_imeState (s : State) (v : Word) : (s.setPc v).imeState = s.imeState := rfl
@[simp] theorem setPc_halt (s : State) (v : Word) : (s.setPc v).halt = s.halt := rfl
@[simp] theorem setPc_fault (s : State) (v : Word) : (s.setPc v).fault = s.fault := rfl
@[simp] theorem setPc_ie (s : State) (v : Word) : (s.setPc v).ie = s.ie := rfl
@[simp] theorem setPc_dev (s : State) (v : Word) : (s.setPc v).dev = s.dev := rfl
@[simp] theorem setPc_joypad (s : State) (v : Word) : (s.setPc v).joypad = s.joypad := rfl
@[simp] theorem setPc_serial (s : State) (v : Word) : (s.setPc v).serial = s.serial := rfl
@[simp] theorem setPc_dma (s : State) (v : Word) : (s.setPc v).dma = s.dma := rfl
@[simp] theorem setPc_mem (s : State) (v : Word) : (s.setPc v).mem = s.mem := rfl
@[simp] theorem setPc_mapperLog (s : State) (v : Word) : (s.setPc v).mapperLog = s.mapperLog := rfl
@[simp] theorem setPc_apuLog (s : State) (v : Word) : (s.setPc v).apuLog = s.apuLog := rfl
@[simp] theorem setPc_stepCycles (s : State) (v : Word) : (s.setPc v).stepCycles = s.stepCycles := rfl
@[simp] theorem setPc_budget (s : State) (v : Word) : (s.setPc v).budget = s.budget := rfl
@[simp] theorem setPc_opPc (s : State) (v : Word) : (s.setPc v).opPc = s.opPc := rfl
@[simp] theorem setPc_params (s : State) (v : Word) : (s.setPc v).params = s.params := rfl

/-! `setFlags` -/

@[simp] theorem setFlags_ime (s : State) (z n h c : Bool) : (s.setFlags z n h c).ime = s.ime := rfl
@[simp] theorem setFlags_imeState (s : State) (z n h c : Bool) : (s.setFlags z n h c).imeState = s.imeState := rfl
@[simp] theorem setFlags_halt (s : State) (z n h c : Bool) : (s.setFlags z n h c).halt = s.halt := rfl
@[simp] theorem setFlags_fault (s : State) (z n h c : Bool) : (s.setFlags z n h c).fault = s.fault := rfl
@[simp] theorem setFlags_ie (s : State) (z n h c : Bool) : (s.setFlags z n h c).ie = s.ie := rfl
@[simp] theorem setFlags_dev (s : State) (z n h c : Bool) : (s.setFlags z n h c).dev = s.dev := rfl
@[simp] theorem setFlags_joypad (s : State) (z n h c : Bool) : (s.setFlags z n h c).joypad = s.joypad := rfl
@[simp] theorem setFlags_serial (s : State) (z n h c : Bool) : (s.setFlags z n h c).serial = s.serial := rfl
@[simp] theorem setFlags_dma (s : State) (z n h c : Bool) : (s.setFlags z n h c).dma = s.dma := rfl
@[simp] theorem setFlags_mem (s : State) (z n h c : Bool) : (s.setFlags z n h c).mem = s.mem := rfl
@[simp] theorem setFlags_mapperLog (s : State) (z n h c : Bool) : (s.setFlags z n h c).mapperLog = s.mapperLog := rfl
@[simp] theorem setFlags_apuLog (s : State) (z n h c : Bool) : (s.setFlags z n h c).apuLog = s.apuLog := rfl
@[simp] theorem setFlags_stepCycles (s : State) (z n h c : Bool) : (s.setFlags z n h c).stepCycles = s.stepCycles := rfl
@[simp] theorem setFlags_budget (s : State) (z n h c : Bool) : (s.setFlags z n h c).budget = s.budget := rfl
@[simp] theorem setFlags_opPc (s : State) (z n h c : Bool) : (s.setFlags z n h c).opPc = s.opPc := rfl
@[simp] theorem setFlags_params (s : State) (z n h c : Bool) : (s.setFlags z n h c).params = s.params := rfl

/-! `setAluFlags` -/

@[simp] theorem setAluFlags_ime (s : State) (o : AluOut) : (s.setAluFlags o).ime = s.ime := rfl
@[simp] theorem setAluFlags_imeState (s : State) (o : AluOut) : (s.setAluFlags o).imeState = s.imeState := rfl
@[simp] theorem setAluFlags_halt (s : State) (o : AluOut) : (s.setAluFlags o).halt = s.halt := rfl
@[simp] theorem setAluFlags_fault (s : State) (o : AluOut) : (s.setAluFlags o).fault = s.fault := rfl
@[simp] theorem setAluFlags_ie (s : State) (o : AluOut) : (s.setAluFlags o).ie = s.ie := rfl
@[simp] theorem setAluFlags_dev (s : State) (o : AluOut) : (s.setAluFlags o).dev = s.dev := rfl
@[simp] theorem setAluFlags_joypad (s : State) (o : AluOut) : (s.setAluFlags o).joypad = s.joypad := rfl
@[simp] theorem setAluFlags_serial (s : State) (o : AluOut) : (s.setAluFlags o).serial = s.serial := rfl
@[simp] theorem setAluFlags_dma (s : State) (o : AluOut) : (s.setAluFlags o).dma = s.dma := rfl
@[simp] theorem setAluFlags_mem (s : State) (o : AluOut) : (s.setAluFlags o).mem = s.mem := rfl
@[simp] theorem setAluFlags_mapperLog (s : State) (o : AluOut) : (s.setAluFlags o).mapperLog = s.mapperLog := rfl
@[simp] theorem setAluFlags_apuLog (s : State) (o : AluOut) : (s.setAluFlags o).apuLog = s.apuLog := rfl
@[simp] theorem setAluFlags_stepCycles (s : State) (o : AluOut) : (s.setAluFlags o).stepCycles = s.stepCycles := rfl
@[simp] theorem setAluFlags_budget (s : State) (o : AluOut) : (s.setAluFlags o).budget = s.budget := rfl
@[simp] theorem setAluFlags_opPc (s : State) (o : AluOut) : (s.setAluFlags o).opPc = s.opPc := rfl
@[simp] theorem setAluFlags_params (s : State) (o : AluOut) : (s.setAluFlags o).params = s.params := rfl

/-! `decSp` -/

@[simp] theorem decSp_ime (s : State) : (s.decSp).ime = s.ime := rfl
@[simp] theorem decSp_imeState (s : State) : (s.decSp).imeState = s.imeState := rfl
@[simp] theorem decSp_halt (s : State) : (s.decSp).halt = s.halt := rfl
@[simp] theorem decSp_fault (s : State) : (s.decSp).fault = s.fault := rfl
@[simp] theorem decSp_ie (s : State) : (s.decSp).ie = s.ie := rfl
@[simp] theorem decSp_dev (s : State) : (s.decSp).dev = s.dev := rfl
@[simp] theorem decSp_joypad (s : State) : (s.decSp).joypad = s.joypad := rfl
@[simp] theorem decSp_serial (s : State) : (s.decSp).serial = s.serial := rfl
@[simp] theorem decSp_dma (s : State) : (s.decSp).dma = s.dma := rfl
@[simp] theorem decSp_mem (s : State) : (s.decSp).mem = s.mem := rfl
@[simp] theorem decSp_mapperLog (s : State) : (s.decSp).mapperLog = s.mapperLog := rfl
@[simp] theorem decSp_apuLog (s : State) : (s.decSp).apuLog = s.apuLog := rfl
@[simp] theorem decSp_stepCycles (s : State) : (s.decSp).stepCycles = s.stepCycles := rfl
@[simp] theorem decSp_budget (s : State) : (s.decSp).budget = s.budget := rfl
@[simp] theorem decSp_opPc (s : State) : (s.decSp).opPc = s.opPc := rfl
@[simp] theorem decSp_params (s : State) : (s.decSp).params = s.params := rfl

/-! `incSp` -/

@[simp] theorem incSp_ime (s : State) : (s.incSp).ime = s.ime := rfl
@[simp] theorem incSp_imeState (s : State) : (s.incSp).imeState = s.imeState := rfl
@[simp] theorem incSp_halt (s : State) : (s.incSp).halt = s.halt := rfl
@[simp] theorem incSp_fault (s : State) : (s.incSp).fault = s.fault := rfl
@[simp] theorem incSp_ie (s : State) : (s.incSp).ie = s.ie := rfl
@[simp] theorem incSp_dev (s : State) : (s.incSp).dev = s.dev := rfl
@[simp] theorem incSp_joypad (s : State) : (s.incSp).joypad = s.joypad := rfl
@[simp] theorem incSp_serial (s : State) : (s.incSp).serial = s.serial := rfl
@[simp] theorem incSp_dma (s : State) : (s.incSp).dma = s.dma := rfl
@[simp] theorem incSp_mem (s : State) : (s.incSp).mem = s.mem := rfl
@[simp] theorem incSp_mapperLog (s : State) : (s.incSp).mapperLog = s.mapperLog := rfl
@[simp] theorem incSp_apuLog (s : State) : (s.incSp).apuLog = s.apuLog := rfl
@[simp] theorem incSp_stepCycles (s : State) : (s.incSp).stepCycles = s.stepCycles := rfl
@[simp] theorem incSp_budget (s : State) : (s.incSp).budget = s.budget := rfl
@[simp] theorem incSp_opPc (s : State) : (s.incSp).opPc = s.opPc := rfl
@[simp] theorem incSp_params (s : State) : (s.incSp).params = s.params := rfl

/-! `tick` -/

@[simp] theorem tick_regs (s : State) : (s.tick).regs = s.regs := rfl
@[simp] theorem tick_ime (s : State) : (s.tick).ime = s.ime := rfl
@[simp] theorem tick_imeState (s : State) : (s.tick).imeState = s.imeState := rfl
@[simp] theorem tick_halt (s : State) : (s.tick).halt = s.halt := rfl
@[simp] theorem tick_fault (s : State) : (s.tick).fault = s.fault := rfl
@[simp] theorem tick_ie (s : State) : (s.tick).ie = s.ie := rfl
@[simp] theorem tick_joypad (s : State) : (s.tick).joypad = s.joypad := rfl
@[simp] theorem tick_serial (s : State) : (s.tick).serial = s.serial := rfl
@[simp] theorem tick_dma (s : State) : (s.tick).dma = s.dma := rfl
@[simp] theorem tick_mem (s : State) : (s.tick).mem = s.mem := rfl
@[simp] theorem tick_mapperLog (s : State) : (s.tick).mapperLog = s.mapperLog := rfl
@[simp] theorem tick_apuLog (s : State) : (s.tick).apuLog = s.apuLog := rfl
@[simp] theorem tick_budget (s : State) : (s.tick).budget = s.budget := rfl
@[simp] theorem tick_opPc (s : State) : (s.tick).opPc = s.opPc := rfl
@[simp] theorem tick_params (s : State) : (s.tick).params = s.params := rfl

/-! `raiseFault` -/

@[simp] theorem raiseFault_regs (r : Fault) (s : State) : (raiseFault r s).regs = s.regs := rfl
@[simp] theorem raiseFault_ime (r : Fault) (s : State) : (raiseFault r s).ime = s.ime := rfl
@[simp] theorem raiseFault_imeState (r : Fault) (s : State) : (raiseFault r s).imeState = s.imeState := rfl
@[simp] theorem raiseFault_halt (r : Fault) (s : State) : (raiseFault r s).halt = s.halt := rfl
@[simp] theorem raiseFault_ie (r : Fault) (s : State) : (raiseFault r s).ie = s.ie := rfl
@[simp] theorem raiseFault_dev (r : Fault) (s : State) : (raiseFault r s).dev = s.dev := rfl
@[simp] theorem raiseFault_joypad (r : Fault) (s : State) : (raiseFault r s).joypad = s.joypad := rfl
@[simp] theorem raiseFault_serial (r : Fault) (s : State) : (raiseFault r s).serial = s.serial := rfl
@[simp] theorem raiseFault_dma (r : Fault) (s : State) : (raiseFault r s).dma = s.dma := rfl
@[simp] theorem raiseFault_mem (r : Fault) (s : State) : (raiseFault r s).mem = s.mem := rfl
@[simp] theorem raiseFault_mapperLog (r : Fault) (s : State) : (raiseFault r s).mapperLog = s.mapperLog := rfl
@[simp] theorem raiseFault_apuLog (r : Fault) (s : State) : (raiseFault r s).apuLog = s.apuLog := rfl
@[simp] theorem raiseFault_stepCycles (r : Fault) (s : State) : (raiseFault r s).stepCycles = s.stepCycles := rfl
@[simp] theorem raiseFault_budget (r : Fault) (s : State) : (raiseFault r s).budget = s.budget := rfl
@[simp] theorem raiseFault_opPc (r : Fault) (s : State) : (raiseFault r s).opPc = s.opPc := rfl
@[simp] theorem raiseFault_params (r : Fault) (s : State) : (raiseFault r s).params = s.params := rfl

/-! The fields that an update does change -/

@[simp] theorem tick_dev (s : State) : s.tick.dev = s.dev.tick s.params.clocksPerCycle := rfl
@[simp] theorem tick_stepCycles (s : State) : s.tick.stepCycles = s.stepCycles + 1 := rfl
@[simp] theorem raiseFault_fault (r : Fault) (s : State) : (raiseFault r s).fault = some r := rfl
@[simp] theorem setPc_pc (s : State) (v : Word) : (s.setPc v).regs.pc = v := rfl
@[simp] theorem setPc_sp (s : State) (v : Word) : (s.setPc v).regs.sp = s.regs.sp := rfl
@[simp] theorem setPc_f (s : State) (v : Word) : (s.setPc v).regs.f = s.regs.f := rfl
@[simp] theorem setPc_a (s : State) (v : Word) : (s.setPc v).regs.a = s.regs.a := rfl
@[simp] theorem setReg_pc (s : State) (r : R8) (v : Byte) : (s.setReg r v).regs.pc = s.regs.pc := by cases r <;> rfl
@[simp] theorem setReg_sp (s : State) (r : R8) (v : Byte) : (s.setReg r v).regs.sp = s.regs.sp := by cases r <;> rfl
@[simp] theorem setReg_f (s : State) (r : R8) (v : Byte) : (s.setReg r v).regs.f = s.regs.f := by cases r <;> rfl
@[simp] theorem setPair_pc (s : State) (p : R16) (v : Word) : (s.setPair p v).regs.pc = s.regs.pc := by cases p <;> rfl
@[simp] theorem setPair_f (s : State) (p : R16) (v : Word) : (s.setPair p v).regs.f = s.regs.f := by cases p <;> rfl
@[simp] theorem setPair_a (s : State) (p : R16) (v : Word) : (s.setPair p v).regs.a = s.regs.a := by cases p <;> rfl
@[simp] theorem setStkPair_pc (s : State) (p : RStk) (v : Word) : (s.setStkPair p v).regs.pc = s.regs.pc := by
  cases p <;> rfl
@[simp] theorem setStkPair_sp (s : State) (p : RStk) (v : Word) : (s.setStkPair p v).regs.sp = s.regs.sp := by
  cases p <;> rfl
@[simp] theorem decSp_sp (s : State) : s.decSp.regs.sp = s.regs.sp - 1 := rfl
@[simp] theorem incSp_sp (s : State) : s.incSp.regs.sp = s.regs.sp + 1 := rfl
@[simp] theorem decSp_pc (s : State) : s.decSp.regs.pc = s.regs.pc := rfl
@[simp] theorem incSp_pc (s : State) : s.incSp.regs.pc = s.regs.pc := rfl
@[simp] theorem decSp_f (s : State) : s.decSp.regs.f = s.regs.f := rfl
@[simp] theorem incSp_f (s : State) : s.incSp.regs.f = s.regs.f := rfl
@[simp] theorem setFlags_pc (s : State) (z n h c : Bool) : (s.setFlags z n h c).regs.pc = s.regs.pc := rfl
@[simp] theorem setFlags_sp (s : State) (z n h c : Bool) : (s.setFlags z n h c).regs.sp = s.regs.sp := rfl
@[simp] theorem setFlags_a (s : State) (z n h c : Bool) : (s.setFlags z n h c).regs.a = s.regs.a := rfl
@[simp] theorem setFlags_f (s : State) (z n h c : Bool) : (s.setFlags z n h c).regs.f = packFlags z n h c := rfl
@[simp] theorem setAluFlags_pc (s : State) (o : AluOut) : (s.setAluFlags o).regs.pc = s.regs.pc := rfl
@[simp] theorem setAluFlags_sp (s : State) (o : AluOut) : (s.setAluFlags o).regs.sp = s.regs.sp := rfl
@[simp] theorem setAluFlags_f (s : State) (o : AluOut) :
    (s.setAluFlags o).regs.f = packFlags o.z o.n o.h o.c := rfl

/-! ### Reading a register after an update -/

/-- A register reads what was last written to it (R10). -/
theorem reg_setReg (s : State) (d r : R8) (v : Byte) : (s.setReg d v).reg r = if r = d then v else s.reg r := by
  cases d <;> cases r <;> rfl

@[simp] theorem reg_setReg_same (s : State) (r : R8) (v : Byte) : (s.setReg r v).reg r = v := by
  simp [reg_setReg]

theorem reg_setReg_ne (s : State) (d r : R8) (v : Byte) (h : r ≠ d) : (s.setReg d v).reg r = s.reg r := by
  simp [reg_setReg, h]

@[simp] theorem reg_a (s : State) : s.reg .a = s.regs.a := rfl
@[simp] theorem reg_setPc (s : State) (r : R8) (v : Word) : (s.setPc v).reg r = s.reg r := by cases r <;> rfl
@[simp] theorem reg_setFlags (s : State) (r : R8) (z n h c : Bool) : (s.setFlags z n h c).reg r = s.reg r := by
  cases r <;> rfl
@[simp] theorem reg_setAluFlags (s : State) (r : R8) (o : AluOut) : (s.setAluFlags o).reg r = s.reg r := by
  cases r <;> rfl
@[simp] theorem reg_decSp (s : State) (r : R8) : s.decSp.reg r = s.reg r := by cases r <;> rfl
@[simp] theorem reg_incSp (s : State) (r : R8) : s.incSp.reg r = s.reg r := by cases r <;> rfl
@[simp] theorem reg_tick (s : State) (r : R8) : s.tick.reg r = s.reg r := by cases r <;> rfl
@[simp] theorem reg_raiseFault (f : Fault) (s : State) (r : R8) : (raiseFault f s).reg r = s.reg r := by cases r <;> rfl

/-- The reads of a register are the reads of the register file alone. -/
theorem reg_congr {s t : State} (h : t.regs = s.regs) (r : R8) : t.reg r = s.reg r := by
  cases r <;> simp [State.reg, h]

theorem pair_congr {s t : State} (h : t.regs = s.regs) (p : R16) : t.pair p = s.pair p := by
  cases p <;> simp [State.pair, h]

theorem stkPair_congr {s t : State} (h : t.regs = s.regs) (p : RStk) : t.stkPair p = s.stkPair p := by
  cases p <;> simp [State.stkPair, State.pair, h]

@[simp] theorem pair_tick (s : State) (p : R16) : s.tick.pair p = s.pair p := pair_congr rfl p
@[simp] theorem stkPair_tick (s : State) (p : RStk) : s.tick.stkPair p = s.stkPair p := stkPair_congr rfl p

/-- The two bytes of a word put together are the word (R21). -/
@[simp] theorem hiByte_append_loByte (w : Word) : hiByte w ++ loByte w = w := by
  simp only [hiByte, loByte]
  apply BitVec.eq_of_getLsbD_eq
  intro i hi
  simp only [BitVec.getLsbD_append, BitVec.getLsbD_extractLsb']
  by_cases h : i < 8
  · simp [h]
  · have h2 : i - 8 < 8 := by omega
    have h3 : 8 + (i - 8) = i := by omega
    simp [h, h2, h3]

/-- A bit of a word made of two bytes. -/
theorem getLsbD_append_bytes (x y : Byte) (i : Nat) :
    (x ++ y : Word).getLsbD i = if i < 8 then y.getLsbD i else x.getLsbD (i - 8) := BitVec.getLsbD_append

@[simp] theorem hiByte_append (x y : Byte) : hiByte (x ++ y : Word) = x := by
  apply BitVec.eq_of_getLsbD_eq
  intro i hi
  rw [hiByte, BitVec.getLsbD_extractLsb', getLsbD_append_bytes]
  simp [hi]

@[simp] theorem loByte_append (x y : Byte) : loByte (x ++ y : Word) = y := by
  apply BitVec.eq_of_getLsbD_eq
  intro i hi
  rw [loByte, BitVec.getLsbD_extractLsb', getLsbD_append_bytes]
  simp [hi]

/-- A pair reads what was last written to it (R21). -/
@[simp] theorem pair_setPair_same (s : State) (p : R16) (v : Word) : (s.setPair p v).pair p = v := by
  cases p <;> simp [State.pair, State.setPair]

/-- `POP AF` drops F's low nibble; the other pairs read what was written (R225, R226). -/
theorem stkPair_setStkPair_same (s : State) (p : RStk) (v : Word) :
    (s.setStkPair p v).stkPair p = if p = .af then v &&& 0xFFF0 else v := by
  cases p <;> simp [State.stkPair, State.setStkPair, State.pair, State.setPair]
  apply BitVec.eq_of_getLsbD_eq
  intro i hi
  rw [getLsbD_append_bytes]
  simp only [hiByte, loByte, BitVec.getLsbD_extractLsb', BitVec.getLsbD_and]
  interval_cases i <;> simp

/-! ### The flag register -/

@[simp] theorem packFlags_z (z n h c : Bool) : (packFlags z n h c).getLsbD 7 = z := by
  cases z <;> cases n <;> cases h <;> cases c <;> rfl
@[simp] theorem packFlags_n (z n h c : Bool) : (packFlags z n h c).getLsbD 6 = n := by
  cases z <;> cases n <;> cases h <;> cases c <;> rfl
@[simp] theorem packFlags_h (z n h c : Bool) : (packFlags z n h c).getLsbD 5 = h := by
  cases z <;> cases n <;> cases h <;> cases c <;> rfl
@[simp] theorem packFlags_c (z n h c : Bool) : (packFlags z n h c).getLsbD 4 = c := by
  cases z <;> cases n <;> cases h <;> cases c <;> rfl

/-- A packed F has a zero low nibble (R23). -/
@[simp] theorem packFlags_low (z n h c : Bool) : packFlags z n h c &&& 0x0F = 0 := by
  cases z <;> cases n <;> cases h <;> cases c <;> rfl

/-- The packed F as a number (R24). -/
theorem packFlags_toNat (z n h c : Bool) :
    (packFlags z n h c).toNat = 128 * z.toNat + 64 * n.toNat + 32 * h.toNat + 16 * c.toNat := by
  cases z <;> cases n <;> cases h <;> cases c <;> rfl

@[simp] theorem zf_setFlags (s : State) (z n h c : Bool) : (s.setFlags z n h c).zf = z := packFlags_z z n h c
@[simp] theorem nf_setFlags (s : State) (z n h c : Bool) : (s.setFlags z n h c).nf = n := packFlags_n z n h c
@[simp] theorem hf_setFlags (s : State) (z n h c : Bool) : (s.setFlags z n h c).hf = h := packFlags_h z n h c
@[simp] theorem cf_setFlags (s : State) (z n h c : Bool) : (s.setFlags z n h c).cf = c := packFlags_c z n h c
@[simp] theorem zf_tick (s : State) : s.tick.zf = s.zf := rfl
@[simp] theorem nf_tick (s : State) : s.tick.nf = s.nf := rfl
@[simp] theorem hf_tick (s : State) : s.tick.hf = s.hf := rfl
@[simp] theorem cf_tick (s : State) : s.tick.cf = s.cf := rfl
@[simp] theorem cond_tick (s : State) (cc : Cond) : s.tick.cond cc = s.cond cc := by cases cc <;> rfl

end Sys2Proof.Machine
end

