-- ==== Sys2Proof/Laws/Bus.lean ====
section
/-!
SUPPORT. Sequences of bus accesses and ticks. `BusRun` says once what such a sequence can do; the frame of every instruction follows from
it, since every instruction is a sequence of accesses and ticks followed by an update of the register file.
-/

namespace Sys2Proof.Machine

/-! ### Ticks -/

@[simp] theorem ticks_zero (s : State) : s.ticks 0 = s := rfl

theorem ticks_succ (n : Nat) (s : State) : s.ticks (n + 1) = (s.ticks n).tick := by
  induction n generalizing s with
  | zero => rfl
  | succ n ih =>
    show s.tick.ticks (n + 1) = _
    rw [ih]; rfl

/-- Ticks change the devices and the cycle count alone (R101). -/
theorem ticks_eq (n : Nat) (s : State) :
    s.ticks n = { s with dev := (s.ticks n).dev, stepCycles := s.stepCycles + n } := by
  induction n with
  | zero => rfl
  | succ n ih => rw [ticks_succ, ih]; rfl

@[simp] theorem ticks_regs (n : Nat) (s : State) : (s.ticks n).regs = s.regs := by rw [ticks_eq]
@[simp] theorem ticks_ime (n : Nat) (s : State) : (s.ticks n).ime = s.ime := by rw [ticks_eq]
@[simp] theorem ticks_imeState (n : Nat) (s : State) : (s.ticks n).imeState = s.imeState := by rw [ticks_eq]
@[simp] theorem ticks_halt (n : Nat) (s : State) : (s.ticks n).halt = s.halt := by rw [ticks_eq]
@[simp] theorem ticks_fault (n : Nat) (s : State) : (s.ticks n).fault = s.fault := by rw [ticks_eq]
@[simp] theorem ticks_ie (n : Nat) (s : State) : (s.ticks n).ie = s.ie := by rw [ticks_eq]
@[simp] theorem ticks_mem (n : Nat) (s : State) : (s.ticks n).mem = s.mem := by rw [ticks_eq]
@[simp] theorem ticks_params (n : Nat) (s : State) : (s.ticks n).params = s.params := by rw [ticks_eq]
@[simp] theorem ticks_budget (n : Nat) (s : State) : (s.ticks n).budget = s.budget := by rw [ticks_eq]
@[simp] theorem ticks_opPc (n : Nat) (s : State) : (s.ticks n).opPc = s.opPc := by rw [ticks_eq]
@[simp] theorem ticks_stepCycles (n : Nat) (s : State) : (s.ticks n).stepCycles = s.stepCycles + n := by rw [ticks_eq]

/-- How the devices advance depends on nothing but them and the clocks of a cycle. -/
theorem ticks_dev_congr {s t : State} (hd : t.dev = s.dev) (hp : t.params = s.params) (n : Nat) :
    (t.ticks n).dev = (s.ticks n).dev := by
  induction n with
  | zero => exact hd
  | succ n ih => rw [ticks_succ, ticks_succ, tick_dev, tick_dev, ih, ticks_params, ticks_params, hp]

/-- What every cycle keeps of the devices, ticks keep. -/
theorem ticks_dev_induction {P : Devices → Prop} {s : State} (step : ∀ d, P d → P (d.tick s.params.clocksPerCycle))
    (h : P s.dev) (n : Nat) : P (s.ticks n).dev := by
  induction n with
  | zero => exact h
  | succ n ih => rw [ticks_succ, tick_dev, ticks_params]; exact step _ ih

/-! ### The register file and the bus do not see each other -/

theorem dmaCopy_withRegs (v : Byte) (n : Nat) (s : State) (r : Regs) :
    dmaCopy v n { s with regs := r } = { dmaCopy v n s with regs := r } := by
  induction n with
  | zero => rfl
  | succ n ih =>
    rw [dmaCopy, dmaCopy, ih]
    have : dmaRead v n { dmaCopy v n s with regs := r } = dmaRead v n (dmaCopy v n s) :=
      routeReadWith_congr false _ rfl rfl rfl rfl rfl rfl rfl rfl rfl
    rw [this]

theorem writeDma_withRegs (v : Byte) (s : State) (r : Regs) :
    writeDma v { s with regs := r } = { writeDma v s with regs := r } := dmaCopy_withRegs v 160 { s with dma := v } r

theorem writeIoReg_withRegs (q : IoReg) (a : Word) (v : Byte) (s : State) (r : Regs) :
    writeIoReg q a v { s with regs := r } = { writeIoReg q a v s with regs := r } := by
  cases q with
  | audio => unfold writeIoReg apuWrite; dsimp only; split <;> rfl
  | dma => exact writeDma_withRegs v s r
  | _ => rfl

theorem routeWrite_withRegs (a : Word) (v : Byte) (s : State) (r : Regs) :
    routeWrite a v { s with regs := r } = { routeWrite a v s with regs := r } := by
  unfold routeWrite
  cases region a with
  | rom | cartRam => unfold mapperWrite; dsimp only; split <;> rfl
  | vram =>
    have hl : State.vramLocked { s with regs := r } = s.vramLocked := rfl
    dsimp only; rw [hl]; cases s.vramLocked <;> rfl
  | oam =>
    have hl : State.oamLocked { s with regs := r } = s.oamLocked := rfl
    dsimp only; rw [hl]; cases s.oamLocked <;> rfl
  | io => exact writeIoReg_withRegs _ a v s r
  | _ => rfl

theorem memWrite_withRegs (a : Word) (v : Byte) (s : State) (r : Regs) :
    memWrite a v { s with regs := r } = { memWrite a v s with regs := r } := by
  unfold memWrite; rw [routeWrite_withRegs]; rfl

theorem ticks_withRegs (n : Nat) (s : State) (r : Regs) :
    State.ticks n { s with regs := r } = { s.ticks n with regs := r } := by
  induction n generalizing s with
  | zero => rfl
  | succ n ih => exact ih s.tick

/-- A bus read does not see the step accounting. -/
theorem routeRead_congr {s t : State} (a : Word) (hm : t.mem = s.mem) (hd : t.dev = s.dev) (hi : t.ie = s.ie)
    (hj : t.joypad = s.joypad) (hs : t.serial = s.serial) (hdma : t.dma = s.dma) (hml : t.mapperLog = s.mapperLog)
    (hal : t.apuLog = s.apuLog) (hp : t.params = s.params) : routeRead a t = routeRead a s :=
  routeReadWith_congr true a hm hd hi hj hs hdma hml hal hp

@[simp] theorem memWrite_regs (a : Word) (v : Byte) (s : State) : (memWrite a v s).regs = s.regs := by simp [memWrite]

/-! ### The stack -/

/-- `Push16` stores the high byte below SP and the low byte below that (R227). -/
theorem push16_eq (v : Word) (s : State) : push16 v s = pushed v s := by
  have h2 : s.regs.sp - 1 - 1 = s.regs.sp - 2 := by
    rw [BitVec.sub_sub]; rfl
  unfold push16 pushed
  have e1 : memWrite s.decSp.regs.sp (hiByte v) s.decSp =
      { memWrite (s.regs.sp - 1) (hiByte v) s with regs := s.decSp.regs } := memWrite_withRegs _ _ s _
  dsimp only
  rw [e1]
  have e2 : State.decSp { memWrite (s.regs.sp - 1) (hiByte v) s with regs := s.decSp.regs } =
      { memWrite (s.regs.sp - 1) (hiByte v) s with regs := { s.regs with sp := s.regs.sp - 1 - 1 } } := rfl
  rw [e2, memWrite_withRegs, h2]
  have e3 : ∀ t : State, t.regs = s.regs → State.setPair t .sp (s.regs.sp - 2) =
      { t with regs := { s.regs with sp := s.regs.sp - 2 } } := by
    intro t ht; unfold State.setPair; rw [ht]
  rw [e3 _ (by rw [memWrite_regs, memWrite_regs])]

/-- `Pop16` reads the word at SP and leaves SP two higher, two cycles later (R228). -/
theorem pop16_eq (s : State) : pop16 s =
    (stackTop s, { s.ticks 2 with regs := { s.regs with sp := s.regs.sp + 2 } }) := by
  have h2 : s.regs.sp + 1 + 1 = s.regs.sp + 2 := by rw [BitVec.add_assoc]; rfl
  unfold pop16 memRead stackTop
  dsimp only
  have e1 : routeRead s.tick.incSp.regs.sp s.tick.incSp = routeRead (s.regs.sp + 1) s.tick := routeRead_withRegs _ s.tick _
  rw [e1, ← h2]
  rfl

/-! ### What a sequence of accesses and ticks can do -/

/-- `t` follows from `s` by `n` ticks and by writes at the addresses `as`, in some order. -/
inductive BusRun (s : State) : List Word → Nat → State → Prop where
  | start : BusRun s [] 0 s
  | tick {as : List Word} {n : Nat} {t : State} (h : BusRun s as n t) : BusRun s as (n + 1) t.tick
  | write {as : List Word} {n : Nat} {t : State} (a : Word) (v : Byte) (h : BusRun s as n t) :
    BusRun s (as ++ [a]) n (routeWrite a v t)

namespace BusRun

variable {s t : State} {as : List Word} {n : Nat}

theorem memWrite (a : Word) (v : Byte) (h : BusRun s as n t) : BusRun s (as ++ [a]) (n + 1) (memWrite a v t) :=
  (h.write a v).tick

theorem ticks (m : Nat) (h : BusRun s as n t) : BusRun s as (n + m) (t.ticks m) := by
  induction m with
  | zero => exact h
  | succ m ih => rw [ticks_succ]; exact ih.tick

theorem regs (h : BusRun s as n t) : t.regs = s.regs := by
  induction h with
  | start => rfl
  | tick _ ih => exact ih
  | write a v _ ih => rw [routeWrite_regs, ih]

theorem params (h : BusRun s as n t) : t.params = s.params := by
  induction h with
  | start => rfl
  | tick _ ih => exact ih
  | write a v _ ih => rw [routeWrite_params, ih]

theorem keepsIme (h : BusRun s as n t) : keepsIme s t := by
  induction h with
  | start => exact ⟨rfl, rfl⟩
  | tick _ ih => exact ih
  | write a v _ ih => exact ⟨(routeWrite_ime a v _).trans ih.1, (routeWrite_imeState a v _).trans ih.2⟩

theorem keepsControl (h : BusRun s as n t) : keepsControl s t := by
  induction h with
  | start => exact ⟨rfl, rfl, rfl, rfl, rfl⟩
  | tick _ ih => exact ih
  | write a v _ ih =>
    exact ⟨(routeWrite_halt a v _).trans ih.1, (routeWrite_fault a v _).trans ih.2.1,
      (routeWrite_budget a v _).trans ih.2.2.1, (routeWrite_params a v _).trans ih.2.2.2.1,
      (routeWrite_opPc a v _).trans ih.2.2.2.2⟩

theorem stepCycles (h : BusRun s as n t) : t.stepCycles = s.stepCycles + n := by
  induction h with
  | start => rfl
  | tick _ ih => rw [tick_stepCycles, ih]; rfl
  | write a v _ ih => rw [routeWrite_stepCycles, ih]

theorem keepsMem (h : BusRun s as n t) : keepsMem (as.flatMap storedKeys) s t := by
  induction h with
  | start => exact fun _ _ => rfl
  | tick _ ih => exact ih
  | write a v _ ih =>
    intro k hk
    rw [List.flatMap_append, List.mem_append, not_or] at hk
    rw [routeWrite_keepsMem a v _ k (by simpa using hk.2)]
    exact ih k hk.1

theorem keepsPeripherals (h : BusRun s as n t) (ha : ∀ a ∈ as, isRegister a = false) :
    keepsPeripherals s t ∧ passes n s t := by
  induction h with
  | start => exact ⟨⟨rfl, rfl, rfl, rfl, rfl⟩, rfl⟩
  | @tick as n t h ih =>
    refine ⟨(ih ha).1, ?_⟩
    rw [passes, ticks_succ, tick_dev, tick_dev, ticks_params, h.params, (ih ha).2]
  | @write as n t a v _ ih =>
    have hw := routeWrite_keepsPeripherals a v t (ha a (by simp))
    have hi := ih fun b hb => ha b (by simp [hb])
    obtain ⟨h1, h2, h3, h4, h5⟩ := hi.1
    obtain ⟨hd, w1, w2, w3, w4, w5⟩ := hw
    exact ⟨⟨w1.trans h1, w2.trans h2, w3.trans h3, w4.trans h4, w5.trans h5⟩, hd.trans hi.2⟩

theorem mapperLog (h : BusRun s as n t) (ha : ∀ a ∈ as, isCartridge a = false) : t.mapperLog = s.mapperLog := by
  induction h with
  | start => rfl
  | tick _ ih => exact ih ha
  | write a v _ ih =>
    rw [routeWrite_mapperLog a v _ (ha a (by simp))]
    exact ih fun b hb => ha b (by simp [hb])

/-- The frame of an instruction that is a bus sequence followed by an update of the register file. -/
theorem storeFrame (h : BusRun s as n t) {rs : List FrameReg} {fs : List Flag} (r : Regs)
    (hr : keepsRegs rs s { s with regs := r }) (hf : keepsFlags fs s { s with regs := r }) :
    storeFrame rs fs as n s { t with regs := r } :=
  ⟨hr, hf, h.keepsMem, h.keepsIme, h.keepsControl, h.keepsPeripherals, h.mapperLog, h.stepCycles⟩

end BusRun

/-- The frame of an instruction that is `n` ticks followed by an update of the register file. -/
theorem frame_withRegs (s : State) (n : Nat) (r : Regs) {rs : List FrameReg} {fs : List Flag}
    (hr : keepsRegs rs s { s with regs := r }) (hf : keepsFlags fs s { s with regs := r }) :
    frame rs fs n s { s.ticks n with regs := r } := by
  have h : BusRun s [] n (s.ticks n) := by simpa using BusRun.start.ticks n
  have hp := h.keepsPeripherals (by simp)
  exact ⟨hr, hf, h.keepsMem, h.keepsIme, h.keepsControl, hp.1, h.mapperLog (by simp), hp.2, h.stepCycles⟩

/-- Keeping registers and flags is a matter of the register file. -/
theorem keepsRegs_congr {rs : List FrameReg} {s t u : State} (h : u.regs = t.regs) (k : keepsRegs rs s t) :
    keepsRegs rs s u := ⟨fun r hr => (reg_congr h r).trans (k.1 r hr), fun hs => by rw [h]; exact k.2 hs⟩

theorem keepsFlags_congr {fs : List Flag} {s t u : State} (h : u.regs = t.regs) (k : keepsFlags fs s t) :
    keepsFlags fs s u := by
  refine ⟨fun f hf => ?_, fun he => by rw [h]; exact k.2 he⟩
  rw [← k.1 f hf]
  cases f <;> simp only [State.flag, State.zf, State.nf, State.hf, State.cf, h]

end Sys2Proof.Machine
end

