-- ==== Sys2Proof/Laws/Rows.lean ====
section
/-!
SUPPORT. One lemma per field-shaped group of rows: what `exec` answers on every row of the group, in the group's shared operation.
A statement about a group cites its lemma and never splits the instructions again.
-/

namespace Sys2Proof.Machine

theorem exec_rowLd (r r' : R8) (s : State) : exec (.rowLd r r') s = .next (s.setReg r (s.reg r')) := by
  cases r <;> cases r' <;> rfl

theorem exec_rowLdImm (r : R8) (v : Byte) (s : State) : exec (.rowLdImm r v) s = .next (s.setReg r v) := by
  cases r <;> rfl

theorem exec_rowLdFromHl (r : R8) (s : State) : exec (.rowLdFromHl r) s = .next (loadReg r (s.pair .hl) s) := by
  cases r <;> rfl

theorem exec_rowLdToHl (r : R8) (s : State) : exec (.rowLdToHl r) s = .next (storeByte (s.pair .hl) (s.reg r) s) := by
  cases r <;> rfl

theorem exec_rowLdPair (p : R16) (w : Word) (s : State) : exec (.rowLdPair p w) s = .next (s.setPair p w) := by
  cases p <;> rfl

theorem exec_rowPush (p : RStk) (s : State) : exec (.rowPush p) s = .next (push p s) := by cases p <;> rfl

theorem exec_rowPop (p : RStk) (s : State) : exec (.rowPop p) s = .next (pop p s) := by cases p <;> rfl

theorem exec_rowAlu (op : AluOp) (x : Opnd8) (s : State) : exec (.rowAlu op x) s = .next (aluOpnd op x s) := by
  rcases x with r | _
  · cases op <;> cases r <;> rfl
  · cases op <;> rfl

theorem exec_rowAluImm (op : AluOp) (v : Byte) (s : State) : exec (.rowAluImm op v) s = .next (aluImm op v s) := by
  cases op <;> rfl

theorem exec_rowInc (x : Opnd8) (s : State) : exec (.rowInc x) s = .next (incOpnd x s) := by
  rcases x with r | _
  · cases r <;> rfl
  · rfl

theorem exec_rowDec (x : Opnd8) (s : State) : exec (.rowDec x) s = .next (decOpnd x s) := by
  rcases x with r | _
  · cases r <;> rfl
  · rfl

theorem exec_rowIncPair (p : R16) (s : State) : exec (.rowIncPair p) s = .next (incPair p s) := by cases p <;> rfl

theorem exec_rowDecPair (p : R16) (s : State) : exec (.rowDecPair p) s = .next (decPair p s) := by cases p <;> rfl

theorem exec_rowAddHl (p : R16) (s : State) : exec (.rowAddHl p) s = .next (addHl p s) := by cases p <;> rfl

theorem exec_rowJrIf (cc : Cond) (e : Byte) (s : State) : exec (.rowJrIf cc e) s = .next (jumpRelIf cc e s) := by
  cases cc <;> rfl

theorem exec_rowJpIf (cc : Cond) (a : Word) (s : State) : exec (.rowJpIf cc a) s = .next (jumpIf cc a s) := by
  cases cc <;> rfl

theorem exec_rowCallIf (cc : Cond) (a : Word) (s : State) : exec (.rowCallIf cc a) s = .next (callIf cc a s) := by
  cases cc <;> rfl

theorem exec_rowRetIf (cc : Cond) (s : State) : exec (.rowRetIf cc) s = .next (retIf cc s) := by cases cc <;> rfl

theorem exec_rowRst (n : Fin 8) (s : State) :
    exec (.rowRst n) s = .next (restart (BitVec.ofNat 16 (8 * n.val)) s) := by
  match n with
  | 0 | 1 | 2 | 3 | 4 | 5 | 6 | 7 => rfl

theorem exec_rowRot (op : RotOp) (x : Opnd8) (s : State) : exec (.rowRot op x) s = .next (rotOpnd op x s) := by
  rcases x with r | _
  · cases op <;> cases r <;> rfl
  · cases op <;> rfl

theorem exec_rowBit (b : Fin 8) (x : Opnd8) (s : State) : exec (.rowBit b x) s = .next (bitTest b x s) := by
  match b with
  | 0 | 1 | 2 | 3 | 4 | 5 | 6 | 7 => rcases x with r | _ <;> [(cases r <;> rfl); rfl]

theorem exec_rowRes (b : Fin 8) (x : Opnd8) (s : State) : exec (.rowRes b x) s = .next (bitReset b x s) := by
  match b with
  | 0 | 1 | 2 | 3 | 4 | 5 | 6 | 7 => rcases x with r | _ <;> [(cases r <;> rfl); rfl]

theorem exec_rowSet (b : Fin 8) (x : Opnd8) (s : State) : exec (.rowSet b x) s = .next (bitSet b x s) := by
  match b with
  | 0 | 1 | 2 | 3 | 4 | 5 | 6 | 7 => rcases x with r | _ <;> [(cases r <;> rfl); rfl]

end Sys2Proof.Machine
end

