-- ==== Sys2Proof/Laws/Decode.lean ====
section
/-!
SUPPORT. The two opcode maps are total and every entry is a row; the secondary map entry by entry; what the fetch returns decodes.
-/

namespace Sys2Proof

theorem primaryMap_length : primaryMap.length = 256 := by
  simp only [primaryMap, List.length_append]
  rfl

theorem secondaryMap_length : secondaryMap.length = 256 := by
  simp only [secondaryMap, List.length_append]
  rfl

theorem forall_mem_sixteen {α : Type} {P : α → Prop} {a0 a1 a2 a3 a4 a5 a6 a7 a8 a9 a10 a11 a12 a13 a14 a15 : α}
    (h0 : P a0) (h1 : P a1) (h2 : P a2) (h3 : P a3) (h4 : P a4) (h5 : P a5) (h6 : P a6) (h7 : P a7)
    (h8 : P a8) (h9 : P a9) (h10 : P a10) (h11 : P a11) (h12 : P a12) (h13 : P a13) (h14 : P a14) (h15 : P a15) :
    ∀ i ∈ [a0, a1, a2, a3, a4, a5, a6, a7, a8, a9, a10, a11, a12, a13, a14, a15], P i := by
  intro i hi
  simp only [List.mem_cons, List.not_mem_nil, or_false] at hi
  rcases hi with rfl | rfl | rfl | rfl | rfl | rfl | rfl | rfl | rfl | rfl | rfl | rfl | rfl | rfl | rfl | rfl <;> assumption

/-- A property of every rotate, bit test, reset and set holds of every row of the secondary map (R160, R165). -/
theorem secondaryMap_forall {P : Instr → Prop} (hRot : ∀ op x, P (.rowRot op x)) (hBit : ∀ b x, P (.rowBit b x))
    (hRes : ∀ b x, P (.rowRes b x)) (hSet : ∀ b x, P (.rowSet b x)) : ∀ i ∈ secondaryMap, P i := by
  have r0 : ∀ i ∈ secondaryRow0, P i := forall_mem_sixteen
    (hRot .rlc (.reg .b)) (hRot .rlc (.reg .c)) (hRot .rlc (.reg .d)) (hRot .rlc (.reg .e))
    (hRot .rlc (.reg .h)) (hRot .rlc (.reg .l)) (hRot .rlc .hlInd) (hRot .rlc (.reg .a))
    (hRot .rrc (.reg .b)) (hRot .rrc (.reg .c)) (hRot .rrc (.reg .d)) (hRot .rrc (.reg .e))
    (hRot .rrc (.reg .h)) (hRot .rrc (.reg .l)) (hRot .rrc .hlInd) (hRot .rrc (.reg .a))
  have r1 : ∀ i ∈ secondaryRow1, P i := forall_mem_sixteen
    (hRot .rl (.reg .b)) (hRot .rl (.reg .c)) (hRot .rl (.reg .d)) (hRot .rl (.reg .e))
    (hRot .rl (.reg .h)) (hRot .rl (.reg .l)) (hRot .rl .hlInd) (hRot .rl (.reg .a))
    (hRot .rr (.reg .b)) (hRot .rr (.reg .c)) (hRot .rr (.reg .d)) (hRot .rr (.reg .e))
    (hRot .rr (.reg .h)) (hRot .rr (.reg .l)) (hRot .rr .hlInd) (hRot .rr (.reg .a))
  have r2 : ∀ i ∈ secondaryRow2, P i := forall_mem_sixteen
    (hRot .sla (.reg .b)) (hRot .sla (.reg .c)) (hRot .sla (.reg .d)) (hRot .sla (.reg .e))
    (hRot .sla (.reg .h)) (hRot .sla (.reg .l)) (hRot .sla .hlInd) (hRot .sla (.reg .a))
    (hRot .sra (.reg .b)) (hRot .sra (.reg .c)) (hRot .sra (.reg .d)) (hRot .sra (.reg .e))
    (hRot .sra (.reg .h)) (hRot .sra (.reg .l)) (hRot .sra .hlInd) (hRot .sra (.reg .a))
  have r3 : ∀ i ∈ secondaryRow3, P i := forall_mem_sixteen
    (hRot .swap (.reg .b)) (hRot .swap (.reg .c)) (hRot .swap (.reg .d)) (hRot .swap (.reg .e))
    (hRot .swap (.reg .h)) (hRot .swap (.reg .l)) (hRot .swap .hlInd) (hRot .swap (.reg .a))
    (hRot .srl (.reg .b)) (hRot .srl (.reg .c)) (hRot .srl (.reg .d)) (hRot .srl (.reg .e))
    (hRot .srl (.reg .h)) (hRot .srl (.reg .l)) (hRot .srl .hlInd) (hRot .srl (.reg .a))
  have r4 : ∀ i ∈ secondaryRow4, P i := forall_mem_sixteen
    (hBit 0 (.reg .b)) (hBit 0 (.reg .c)) (hBit 0 (.reg .d)) (hBit 0 (.reg .e))
    (hBit 0 (.reg .h)) (hBit 0 (.reg .l)) (hBit 0 .hlInd) (hBit 0 (.reg .a))
    (hBit 1 (.reg .b)) (hBit 1 (.reg .c)) (hBit 1 (.reg .d)) (hBit 1 (.reg .e))
    (hBit 1 (.reg .h)) (hBit 1 (.reg .l)) (hBit 1 .hlInd) (hBit 1 (.reg .a))
  have r5 : ∀ i ∈ secondaryRow5, P i := forall_mem_sixteen
    (hBit 2 (.reg .b)) (hBit 2 (.reg .c)) (hBit 2 (.reg .d)) (hBit 2 (.reg .e))
    (hBit 2 (.reg .h)) (hBit 2 (.reg .l)) (hBit 2 .hlInd) (hBit 2 (.reg .a))
    (hBit 3 (.reg .b)) (hBit 3 (.reg .c)) (hBit 3 (.reg .d)) (hBit 3 (.reg .e))
    (hBit 3 (.reg .h)) (hBit 3 (.reg .l)) (hBit 3 .hlInd) (hBit 3 (.reg .a))
  have r6 : ∀ i ∈ secondaryRow6, P i := forall_mem_sixteen
    (hBit 4 (.reg .b)) (hBit 4 (.reg .c)) (hBit 4 (.reg .d)) (hBit 4 (.reg .e))
    (hBit 4 (.reg .h)) (hBit 4 (.reg .l)) (hBit 4 .hlInd) (hBit 4 (.reg .a))
    (hBit 5 (.reg .b)) (hBit 5 (.reg .c)) (hBit 5 (.reg .d)) (hBit 5 (.reg .e))
    (hBit 5 (.reg .h)) (hBit 5 (.reg .l)) (hBit 5 .hlInd) (hBit 5 (.reg .a))
  have r7 : ∀ i ∈ secondaryRow7, P i := forall_mem_sixteen
    (hBit 6 (.reg .b)) (hBit 6 (.reg .c)) (hBit 6 (.reg .d)) (hBit 6 (.reg .e))
    (hBit 6 (.reg .h)) (hBit 6 (.reg .l)) (hBit 6 .hlInd) (hBit 6 (.reg .a))
    (hBit 7 (.reg .b)) (hBit 7 (.reg .c)) (hBit 7 (.reg .d)) (hBit 7 (.reg .e))
    (hBit 7 (.reg .h)) (hBit 7 (.reg .l)) (hBit 7 .hlInd) (hBit 7 (.reg .a))
  have r8 : ∀ i ∈ secondaryRow8, P i := forall_mem_sixteen
    (hRes 0 (.reg .b)) (hRes 0 (.reg .c)) (hRes 0 (.reg .d)) (hRes 0 (.reg .e))
    (hRes 0 (.reg .h)) (hRes 0 (.reg .l)) (hRes 0 .hlInd) (hRes 0 (.reg .a))
    (hRes 1 (.reg .b)) (hRes 1 (.reg .c)) (hRes 1 (.reg .d)) (hRes 1 (.reg .e))
    (hRes 1 (.reg .h)) (hRes 1 (.reg .l)) (hRes 1 .hlInd) (hRes 1 (.reg .a))
  have r9 : ∀ i ∈ secondaryRow9, P i := forall_mem_sixteen
    (hRes 2 (.reg .b)) (hRes 2 (.reg .c)) (hRes 2 (.reg .d)) (hRes 2 (.reg .e))
    (hRes 2 (.reg .h)) (hRes 2 (.reg .l)) (hRes 2 .hlInd) (hRes 2 (.reg .a))
    (hRes 3 (.reg .b)) (hRes 3 (.reg .c)) (hRes 3 (.reg .d)) (hRes 3 (.reg .e))
    (hRes 3 (.reg .h)) (hRes 3 (.reg .l)) (hRes 3 .hlInd) (hRes 3 (.reg .a))
  have rA : ∀ i ∈ secondaryRowA, P i := forall_mem_sixteen
    (hRes 4 (.reg .b)) (hRes 4 (.reg .c)) (hRes 4 (.reg .d)) (hRes 4 (.reg .e))
    (hRes 4 (.reg .h)) (hRes 4 (.reg .l)) (hRes 4 .hlInd) (hRes 4 (.reg .a))
    (hRes 5 (.reg .b)) (hRes 5 (.reg .c)) (hRes 5 (.reg .d)) (hRes 5 (.reg .e))
    (hRes 5 (.reg .h)) (hRes 5 (.reg .l)) (hRes 5 .hlInd) (hRes 5 (.reg .a))
  have rB : ∀ i ∈ secondaryRowB, P i := forall_mem_sixteen
    (hRes 6 (.reg .b)) (hRes 6 (.reg .c)) (hRes 6 (.reg .d)) (hRes 6 (.reg .e))
    (hRes 6 (.reg .h)) (hRes 6 (.reg .l)) (hRes 6 .hlInd) (hRes 6 (.reg .a))
    (hRes 7 (.reg .b)) (hRes 7 (.reg .c)) (hRes 7 (.reg .d)) (hRes 7 (.reg .e))
    (hRes 7 (.reg .h)) (hRes 7 (.reg .l)) (hRes 7 .hlInd) (hRes 7 (.reg .a))
  have rC : ∀ i ∈ secondaryRowC, P i := forall_mem_sixteen
    (hSet 0 (.reg .b)) (hSet 0 (.reg .c)) (hSet 0 (.reg .d)) (hSet 0 (.reg .e))
    (hSet 0 (.reg .h)) (hSet 0 (.reg .l)) (hSet 0 .hlInd) (hSet 0 (.reg .a))
    (hSet 1 (.reg .b)) (hSet 1 (.reg .c)) (hSet 1 (.reg .d)) (hSet 1 (.reg .e))
    (hSet 1 (.reg .h)) (hSet 1 (.reg .l)) (hSet 1 .hlInd) (hSet 1 (.reg .a))
  have rD : ∀ i ∈ secondaryRowD, P i := forall_mem_sixteen
    (hSet 2 (.reg .b)) (hSet 2 (.reg .c)) (hSet 2 (.reg .d)) (hSet 2 (.reg .e))
    (hSet 2 (.reg .h)) (hSet 2 (.reg .l)) (hSet 2 .hlInd) (hSet 2 (.reg .a))
    (hSet 3 (.reg .b)) (hSet 3 (.reg .c)) (hSet 3 (.reg .d)) (hSet 3 (.reg .e))
    (hSet 3 (.reg .h)) (hSet 3 (.reg .l)) (hSet 3 .hlInd) (hSet 3 (.reg .a))
  have rE : ∀ i ∈ secondaryRowE, P i := forall_mem_sixteen
    (hSet 4 (.reg .b)) (hSet 4 (.reg .c)) (hSet 4 (.reg .d)) (hSet 4 (.reg .e))
    (hSet 4 (.reg .h)) (hSet 4 (.reg .l)) (hSet 4 .hlInd) (hSet 4 (.reg .a))
    (hSet 5 (.reg .b)) (hSet 5 (.reg .c)) (hSet 5 (.reg .d)) (hSet 5 (.reg .e))
    (hSet 5 (.reg .h)) (hSet 5 (.reg .l)) (hSet 5 .hlInd) (hSet 5 (.reg .a))
  have rF : ∀ i ∈ secondaryRowF, P i := forall_mem_sixteen
    (hSet 6 (.reg .b)) (hSet 6 (.reg .c)) (hSet 6 (.reg .d)) (hSet 6 (.reg .e))
    (hSet 6 (.reg .h)) (hSet 6 (.reg .l)) (hSet 6 .hlInd) (hSet 6 (.reg .a))
    (hSet 7 (.reg .b)) (hSet 7 (.reg .c)) (hSet 7 (.reg .d)) (hSet 7 (.reg .e))
    (hSet 7 (.reg .h)) (hSet 7 (.reg .l)) (hSet 7 .hlInd) (hSet 7 (.reg .a))
  intro i hi
  simp only [secondaryMap, List.mem_append] at hi
  rcases hi with ((((((((((((((h | h) | h) | h) | h) | h) | h) | h) | h) | h) | h) | h) | h) | h) | h) | h
  exacts [r0 i h, r1 i h, r2 i h, r3 i h, r4 i h, r5 i h, r6 i h, r7 i h, r8 i h, r9 i h, rA i h, rB i h, rC i h, rD i h, rE i h,
    rF i h]

theorem secondaryRow_mem (b : Byte) : secondaryRow b ∈ secondaryMap := by
  have h : b.toNat < secondaryMap.length := by rw [secondaryMap_length]; exact b.isLt
  unfold secondaryRow
  rw [List.getD_eq_getElem _ _ h]
  exact List.getElem_mem h

/-- A property of every rotate, bit test, reset and set holds of the row of every second byte. -/
theorem secondaryRow_cases {P : Instr → Prop} (hRot : ∀ op x, P (.rowRot op x)) (hBit : ∀ b x, P (.rowBit b x))
    (hRes : ∀ b x, P (.rowRes b x)) (hSet : ∀ b x, P (.rowSet b x)) (b : Byte) : P (secondaryRow b) :=
  secondaryMap_forall hRot hBit hRes hSet _ (secondaryRow_mem b)

end Sys2Proof

namespace Sys2Proof.Machine

theorem secondaryMeanings_eq : secondaryMeanings = secondaryMap.map exec := by
  have m0 : secondaryMeanings0 = secondaryRow0.map exec := rfl
  have m1 : secondaryMeanings1 = secondaryRow1.map exec := rfl
  have m2 : secondaryMeanings2 = secondaryRow2.map exec := rfl
  have m3 : secondaryMeanings3 = secondaryRow3.map exec := rfl
  have m4 : secondaryMeanings4 = secondaryRow4.map exec := rfl
  have m5 : secondaryMeanings5 = secondaryRow5.map exec := rfl
  have m6 : secondaryMeanings6 = secondaryRow6.map exec := rfl
  have m7 : secondaryMeanings7 = secondaryRow7.map exec := rfl
  have m8 : secondaryMeanings8 = secondaryRow8.map exec := rfl
  have m9 : secondaryMeanings9 = secondaryRow9.map exec := rfl
  have mA : secondaryMeaningsA = secondaryRowA.map exec := rfl
  have mB : secondaryMeaningsB = secondaryRowB.map exec := rfl
  have mC : secondaryMeaningsC = secondaryRowC.map exec := rfl
  have mD : secondaryMeaningsD = secondaryRowD.map exec := rfl
  have mE : secondaryMeaningsE = secondaryRowE.map exec := rfl
  have mF : secondaryMeaningsF = secondaryRowF.map exec := rfl
  simp only [secondaryMeanings, secondaryMap, List.map_append, m0, m1, m2, m3, m4, m5, m6, m7, m8, m9, mA, mB, mC, mD, mE, mF]

/-- The escape row's table of meanings is the secondary map's (R336). -/
theorem secondaryMeaning_eq (b : Byte) (s : State) :
    (secondaryMeanings.getD b.toNat Host.Outcome.next) s = exec (secondaryRow b) s := by
  have h : b.toNat < secondaryMap.length := by rw [secondaryMap_length]; exact b.isLt
  have h' : b.toNat < (secondaryMap.map exec).length := by rw [List.length_map]; exact h
  unfold secondaryRow
  rw [secondaryMeanings_eq, List.getD_eq_getElem _ _ h', List.getD_eq_getElem _ _ h, List.getElem_map]

/-- The escape row by itself: one byte fetched, then the row it selects (R336). -/
theorem exec_prefixCb (s : State) :
    exec .prefixCb s = exec (secondaryRow (routeRead s.regs.pc s)) (s.tick.setPc (s.regs.pc + 1)) :=
  secondaryMeaning_eq _ _

/-- What the fetch returns is one whole row, with no byte left over: decode is total on fetched bytes (R153, R167). -/
theorem decode_fetchBytes (s : State) : ∃ i, decode (fetchBytes s).1 = .ok (i, []) := by
  unfold fetchBytes decode operandCount
  dsimp only
  cases primaryRow (fetchOp s).1 with
  | p1 i => exact ⟨i, rfl⟩
  | p2 mk => exact ⟨_, rfl⟩
  | p3 mk => exact ⟨_, rfl⟩
  | escape => exact ⟨_, rfl⟩

end Sys2Proof.Machine
end

