-- ==== Sys2Proof/Laws/Frames.lean ====
section
/-!
SUPPORT. Frames of register-file updates, how frames compose, and for each shared operation its form: a bus sequence, then an update
of the register file.
-/

namespace Sys2Proof.Machine

/-! ### Composition -/

theorem keepsRegs_refl (rs : List FrameReg) (s : State) : keepsRegs rs s s := ⟨fun _ _ => rfl, fun _ => rfl⟩

theorem keepsFlags_refl (fs : List Flag) (s : State) : keepsFlags fs s s := ⟨fun _ _ => rfl, fun _ => rfl⟩

theorem keepsRegs_trans {rs : List FrameReg} {s t u : State} (h1 : keepsRegs rs s t) (h2 : keepsRegs rs t u) :
    keepsRegs rs s u := ⟨fun r hr => (h2.1 r hr).trans (h1.1 r hr), fun hs => (h2.2 hs).trans (h1.2 hs)⟩

theorem keepsRegs_mono {rs qs : List FrameReg} {s t : State} (hsub : ∀ x ∈ rs, x ∈ qs) (h : keepsRegs rs s t) :
    keepsRegs qs s t := ⟨fun r hr => h.1 r fun hx => hr (hsub _ hx), fun hs => h.2 fun hx => hs (hsub _ hx)⟩

/-- Keeping F keeps every flag. -/
theorem keepsFlags_of_f {fs : List Flag} {s t : State} (h : t.regs.f = s.regs.f) : keepsFlags fs s t := by
  refine ⟨fun f _ => ?_, fun _ => h⟩
  cases f <;> simp only [State.flag, State.zf, State.nf, State.hf, State.cf, h]

/-- Keeping flags is a matter of F. -/
theorem keepsFlags_congr_f {fs : List Flag} {s t u : State} (h : u.regs.f = t.regs.f) (k : keepsFlags fs s t) :
    keepsFlags fs s u := by
  refine ⟨fun f hf => ?_, fun he => h.trans (k.2 he)⟩
  rw [← k.1 f hf]
  cases f <;> simp only [State.flag, State.zf, State.nf, State.hf, State.cf, h]

/-- The frame of an instruction that is a bus sequence and nothing else. -/
theorem storeFrame_of_busRun {s t : State} {as : List Word} {n : Nat} (h : BusRun s as n t) : storeFrame [] [] as n s t := by
  have k := h.storeFrame s.regs (keepsRegs_refl [] s) (keepsFlags_refl [] s)
  have e : { t with regs := s.regs } = t := by rw [← h.regs]
  rwa [e] at k

/-- What an instruction that is `n` ticks and an update of the register file computes. -/
theorem computes_of {i : Instr} {rs : List FrameReg} {fs : List Flag} {n : Nat} {s : State} (r : Regs)
    (he : exec i s = .next { s.ticks n with regs := r }) (hpc : r.pc = s.regs.pc)
    (hr : keepsRegs rs s { s with regs := r }) (hf : keepsFlags fs s { s with regs := r }) :
    computes i rs fs n s { s.ticks n with regs := r } := ⟨he, hpc, frame_withRegs s n r hr hf⟩

/-! ### Updates of the register file -/

theorem keepsRegs_setReg (r : R8) (v : Byte) (s : State) : keepsRegs [.r8 r] s (s.setReg r v) :=
  ⟨fun q hq => reg_setReg_ne s r q v fun e => hq (by simp [e]), fun _ => setReg_sp s r v⟩

theorem keepsRegs_setPair (p : R16) (v : Word) (s : State) : keepsRegs (pairRegs p) s (s.setPair p v) := by
  cases p <;> refine ⟨fun q hq => ?_, fun hs => ?_⟩
  all_goals first
    | rfl
    | (exact absurd (by simp [pairRegs]) hs)
    | (cases q <;> first | rfl | (exact absurd (by simp [pairRegs]) hq))

theorem keepsRegs_setPc (v : Word) (s : State) : keepsRegs [] s (s.setPc v) :=
  ⟨fun q _ => reg_setPc s q v, fun _ => rfl⟩

theorem keepsRegs_setFlags (z n h c : Bool) (s : State) : keepsRegs [] s (s.setFlags z n h c) :=
  ⟨fun q _ => reg_setFlags s q z n h c, fun _ => rfl⟩

/-- Flags written with their old value are kept. -/
theorem keepsFlags_setFlags {fs : List Flag} (z n h c : Bool) (s : State) (hne : fs ≠ [])
    (hz : .z ∉ fs → z = s.zf) (hn : .n ∉ fs → n = s.nf) (hh : .h ∉ fs → h = s.hf) (hc : .c ∉ fs → c = s.cf) :
    keepsFlags fs s (s.setFlags z n h c) := by
  refine ⟨fun f hf => ?_, fun e => absurd e hne⟩
  cases f with
  | z => exact (zf_setFlags s z n h c).trans (hz hf)
  | n => exact (nf_setFlags s z n h c).trans (hn hf)
  | h => exact (hf_setFlags s z n h c).trans (hh hf)
  | c => exact (cf_setFlags s z n h c).trans (hc hf)

/-- The flags written are the flags that stand in F (R24). -/
theorem hasFlags_setFlags (z n h c : Bool) (s : State) : hasFlags (s.setFlags z n h c) z n h c :=
  packFlags_toNat z n h c

/-- The flags of a state whose F was packed from them. -/
theorem hasFlags_of {t : State} {z n h c z' n' h' c' : Bool} (e : t.regs.f = packFlags z n h c) (hz : z = z') (hn : n = n')
    (hh : h = h') (hc : c = c') : hasFlags t z' n' h' c' := by
  subst hz hn hh hc
  unfold hasFlags
  rw [e, packFlags_toNat]

/-! ### The form of each shared operation -/

theorem loadReg_eq (r : R8) (a : Word) (s : State) :
    loadReg r a s = { s.tick with regs := (s.setReg r (routeRead a s)).regs } := by cases r <;> rfl

theorem loadAHlStep_eq (step : Word) (s : State) : loadAHlStep step s =
    { s.tick with regs := ((s.setReg .a (routeRead (s.pair .hl) s)).setPair .hl (s.pair .hl + step)).regs } := rfl

theorem storeAHlStep_eq (step : Word) (s : State) : storeAHlStep step s =
    (memWrite (s.pair .hl) s.regs.a s).setPair .hl (s.pair .hl + step) := by
  unfold storeAHlStep storeA
  dsimp only
  rw [pair_congr (memWrite_regs _ _ s)]

theorem setPair_withRegs (p : R16) (v : Word) (s t : State) (h : t.regs = s.regs) :
    t.setPair p v = { t with regs := (s.setPair p v).regs } := by
  cases p <;> simp only [State.setPair, h]

theorem push_eq (p : RStk) (s : State) : push p s = pushed (s.stkPair p) s.tick := by
  unfold push; rw [push16_eq, stkPair_tick]

theorem pushed_eq (v : Word) (s : State) : pushed v s =
    { memWrite (s.regs.sp - 2) (loByte v) (memWrite (s.regs.sp - 1) (hiByte v) s) with
      regs := { s.regs with sp := s.regs.sp - 2 } } := by
  unfold pushed State.setPair
  dsimp only
  rw [memWrite_regs, memWrite_regs]

@[simp] theorem pushed_regs (v : Word) (s : State) : (pushed v s).regs = { s.regs with sp := s.regs.sp - 2 } := by
  rw [pushed_eq]

/-- The bus sequence of a push. -/
theorem pushed_busRun (v : Word) (s : State) :
    BusRun s [s.regs.sp - 1, s.regs.sp - 2] 2
      (memWrite (s.regs.sp - 2) (loByte v) (memWrite (s.regs.sp - 1) (hiByte v) s)) :=
  (BusRun.start.memWrite _ _).memWrite _ _

theorem pop_eq (p : RStk) (s : State) : pop p s =
    { s.ticks 2 with regs := (State.setStkPair { s with regs := { s.regs with sp := s.regs.sp + 2 } } p (stackTop s)).regs } := by
  unfold pop
  rw [pop16_eq]
  cases p <;> rfl

theorem ret_eq (s : State) : ret s =
    { s.ticks 3 with regs := { s.regs with sp := s.regs.sp + 2, pc := stackTop s } } := by
  unfold ret
  rw [pop16_eq]
  rfl

theorem call_eq (a : Word) (s : State) : call a s = (pushed s.regs.pc s.tick).setPc a := by
  unfold call; dsimp only; rw [push16_eq]; rfl

theorem restart_eq (a : Word) (s : State) : restart a s = (pushed s.regs.pc s.tick).setPc a := by
  unfold restart; dsimp only; rw [push16_eq]; rfl

/-- Reading an operand takes its cycles and gives its value. -/
theorem readOpnd_eq (x : Opnd8) (s : State) : readOpnd x s = (opndVal x s, s.ticks (opndCycles x)) := by
  cases x <;> rfl

/-- A read-modify-write of an operand is its read, then its write. -/
theorem writeOpnd_eq (x : Opnd8) (w : Byte) (s : State) : writeOpnd x w (s.ticks (opndCycles x)) = afterOpnd x w s := by
  cases x with
  | reg r => rfl
  | hlInd => exact congrArg (fun a => memWrite a w s.tick) (pair_tick s .hl)

theorem storeSp_eq (a : Word) (s : State) : storeSp a s =
    memWrite (a + 1) (hiByte s.regs.sp) (memWrite a (loByte s.regs.sp) s) := by
  unfold storeSp
  dsimp only
  rw [memWrite_regs]

theorem cf_ticks (n : Nat) (s : State) : (s.ticks n).cf = s.cf := by unfold State.cf; rw [ticks_regs]

/-- The ALU group sees and writes only the register file, after the operand's cycles. -/
theorem aluOpnd_eq (op : AluOp) (x : Opnd8) (s : State) : aluOpnd op x s =
    { s.ticks (opndCycles x) with regs := (applyAlu op (opndVal x s) s).regs } := by
  unfold aluOpnd
  rw [readOpnd_eq]
  dsimp only
  rw [ticks_eq]
  cases op <;> rfl

theorem incOpnd_eq (x : Opnd8) (s : State) : incOpnd x s =
    (afterOpnd x (inc8 (opndVal x s) s.cf).val s).setAluFlags (inc8 (opndVal x s) s.cf) := by
  unfold incOpnd
  dsimp only
  rw [readOpnd_eq]
  dsimp only
  rw [writeOpnd_eq]

theorem decOpnd_eq (x : Opnd8) (s : State) : decOpnd x s =
    (afterOpnd x (dec8 (opndVal x s) s.cf).val s).setAluFlags (dec8 (opndVal x s) s.cf) := by
  unfold decOpnd
  dsimp only
  rw [readOpnd_eq]
  dsimp only
  rw [writeOpnd_eq]

theorem rotOpnd_eq (op : RotOp) (x : Opnd8) (s : State) : rotOpnd op x s =
    (afterOpnd x (rot8 op (opndVal x s) s.cf).val s).setAluFlags (rot8 op (opndVal x s) s.cf) := by
  unfold rotOpnd
  rw [readOpnd_eq]
  dsimp only
  rw [cf_ticks, writeOpnd_eq]

theorem bitTest_eq (b : Fin 8) (x : Opnd8) (s : State) : bitTest b x s =
    { s.ticks (opndCycles x) with regs := (s.setFlags (!(opndVal x s).getLsbD b) false true s.cf).regs } := by
  unfold bitTest
  rw [readOpnd_eq]
  dsimp only
  rw [cf_ticks]
  unfold State.setFlags
  rw [ticks_regs]

theorem bitReset_eq (b : Fin 8) (x : Opnd8) (s : State) :
    bitReset b x s = afterOpnd x (opndVal x s &&& ~~~bitMask b) s := by
  unfold bitReset
  rw [readOpnd_eq]
  dsimp only
  rw [writeOpnd_eq]

theorem bitSet_eq (b : Fin 8) (x : Opnd8) (s : State) : bitSet b x s = afterOpnd x (opndVal x s ||| bitMask b) s := by
  unfold bitSet
  rw [readOpnd_eq]
  dsimp only
  rw [writeOpnd_eq]

theorem afterOpnd_f (x : Opnd8) (w : Byte) (s : State) : (afterOpnd x w s).regs.f = s.regs.f := by
  cases x with
  | reg r => exact setReg_f s r w
  | hlInd => exact congrArg Regs.f (memWrite_regs _ _ s.tick)

/-- The frame of a read-modify-write followed by flags. -/
theorem opndFrame_setFlags {fs : List Flag} (x : Opnd8) (w : Byte) (z n h c : Bool) (s : State) (hne : fs ≠ [])
    (hz : .z ∉ fs → z = s.zf) (hn : .n ∉ fs → n = s.nf) (hh : .h ∉ fs → h = s.hf) (hc : .c ∉ fs → c = s.cf) :
    opndFrame x fs s ((afterOpnd x w s).setFlags z n h c) := by
  cases x with
  | reg r =>
    have e : (afterOpnd (.reg r) w s).setFlags z n h c =
        { s.ticks 0 with regs := ((s.setReg r w).setFlags z n h c).regs } := by cases r <;> rfl
    rw [e]
    refine frame_withRegs s 0 _ ?_ ?_
    · exact keepsRegs_trans (keepsRegs_setReg r w s) (keepsRegs_mono (by simp) (keepsRegs_setFlags z n h c _))
    · exact keepsFlags_congr_f (t := s.setFlags z n h c) rfl (keepsFlags_setFlags z n h c s hne hz hn hh hc)
  | hlInd =>
    have e : (afterOpnd .hlInd w s).setFlags z n h c =
        { memWrite (s.pair .hl) w s.tick with regs := (s.setFlags z n h c).regs } := by
      simp only [afterOpnd, State.setFlags, memWrite_regs]
      rfl
    rw [e]
    exact (BusRun.start.tick.memWrite _ _).storeFrame _ (keepsRegs_setFlags z n h c s)
      (keepsFlags_setFlags z n h c s hne hz hn hh hc)

end Sys2Proof.Machine
end

