-- ==== Sys2Proof/Laws/Induction.lean ====
section
/-!
SUPPORT. Induction over the instruction set by row groups: a property of every group, of every row outside the groups and of the
undefined opcodes holds of every instruction.
-/

namespace Sys2Proof

theorem Instr.byRows {P : Instr → Prop}
    (hLd : ∀ (x0 : R8) (x1 : R8), P (.rowLd x0 x1))
    (hLdImm : ∀ (x0 : R8) (x1 : Byte), P (.rowLdImm x0 x1))
    (hLdFromHl : ∀ (x0 : R8), P (.rowLdFromHl x0))
    (hLdToHl : ∀ (x0 : R8), P (.rowLdToHl x0))
    (hLdPair : ∀ (x0 : R16) (x1 : Word), P (.rowLdPair x0 x1))
    (hPush : ∀ (x0 : RStk), P (.rowPush x0))
    (hPop : ∀ (x0 : RStk), P (.rowPop x0))
    (hAlu : ∀ (x0 : AluOp) (x1 : Opnd8), P (.rowAlu x0 x1))
    (hAluImm : ∀ (x0 : AluOp) (x1 : Byte), P (.rowAluImm x0 x1))
    (hInc : ∀ (x0 : Opnd8), P (.rowInc x0))
    (hDec : ∀ (x0 : Opnd8), P (.rowDec x0))
    (hIncPair : ∀ (x0 : R16), P (.rowIncPair x0))
    (hDecPair : ∀ (x0 : R16), P (.rowDecPair x0))
    (hAddHl : ∀ (x0 : R16), P (.rowAddHl x0))
    (hJrIf : ∀ (x0 : Cond) (x1 : Byte), P (.rowJrIf x0 x1))
    (hJpIf : ∀ (x0 : Cond) (x1 : Word), P (.rowJpIf x0 x1))
    (hCallIf : ∀ (x0 : Cond) (x1 : Word), P (.rowCallIf x0 x1))
    (hRetIf : ∀ (x0 : Cond), P (.rowRetIf x0))
    (hRst : ∀ (x0 : Fin 8), P (.rowRst x0))
    (hRot : ∀ (x0 : RotOp) (x1 : Opnd8), P (.rowRot x0 x1))
    (hBit : ∀ (x0 : Fin 8) (x1 : Opnd8), P (.rowBit x0 x1))
    (hRes : ∀ (x0 : Fin 8) (x1 : Opnd8), P (.rowRes x0 x1))
    (hSet : ∀ (x0 : Fin 8) (x1 : Opnd8), P (.rowSet x0 x1))
    (hLdIndBcA : P .ldIndBcA)
    (hLdIndA16Sp : ∀ (a : Word), P (.ldIndA16Sp a))
    (hLdAIndBc : P .ldAIndBc)
    (hLdIndDeA : P .ldIndDeA)
    (hLdAIndDe : P .ldAIndDe)
    (hLdIndHlIncA : P .ldIndHlIncA)
    (hLdAIndHlInc : P .ldAIndHlInc)
    (hLdIndHlDecA : P .ldIndHlDecA)
    (hLdIndHlD8 : ∀ (d : Byte), P (.ldIndHlD8 d))
    (hLdAIndHlDec : P .ldAIndHlDec)
    (hLdhIndA8A : ∀ (n : Byte), P (.ldhIndA8A n))
    (hLdhIndCA : P .ldhIndCA)
    (hLdIndA16A : ∀ (a : Word), P (.ldIndA16A a))
    (hLdhAIndA8 : ∀ (n : Byte), P (.ldhAIndA8 n))
    (hLdhAIndC : P .ldhAIndC)
    (hLdHlSpE8 : ∀ (e : Byte), P (.ldHlSpE8 e))
    (hLdSpHl : P .ldSpHl)
    (hLdAIndA16 : ∀ (a : Word), P (.ldAIndA16 a))
    (hRlca : P .rlca)
    (hRrca : P .rrca)
    (hRla : P .rla)
    (hRra : P .rra)
    (hDaa : P .daa)
    (hCpl : P .cpl)
    (hScf : P .scf)
    (hCcf : P .ccf)
    (hAddSpE8 : ∀ (e : Byte), P (.addSpE8 e))
    (hJrE8 : ∀ (e : Byte), P (.jrE8 e))
    (hJpA16 : ∀ (a : Word), P (.jpA16 a))
    (hRet : P .ret)
    (hCallA16 : ∀ (a : Word), P (.callA16 a))
    (hReti : P .reti)
    (hJpHl : P .jpHl)
    (hNop : P .nop)
    (hStop : P .stop)
    (hHalt : P .halt)
    (hDi : P .di)
    (hEi : P .ei)
    (hPrefixCb : P .prefixCb)
    (hUndefined : ∀ x ∈ Instr.undefinedRows, P x.2) : ∀ i, P i := by
  intro i
  match i with
  | .ldBcD16 d => exact hLdPair .bc d
  | .ldIndBcA => exact hLdIndBcA
  | .ldBD8 d => exact hLdImm .b d
  | .ldIndA16Sp a => exact hLdIndA16Sp a
  | .ldAIndBc => exact hLdAIndBc
  | .ldCD8 d => exact hLdImm .c d
  | .ldDeD16 d => exact hLdPair .de d
  | .ldIndDeA => exact hLdIndDeA
  | .ldDD8 d => exact hLdImm .d d
  | .ldAIndDe => exact hLdAIndDe
  | .ldED8 d => exact hLdImm .e d
  | .ldHlD16 d => exact hLdPair .hl d
  | .ldIndHlIncA => exact hLdIndHlIncA
  | .ldHD8 d => exact hLdImm .h d
  | .ldAIndHlInc => exact hLdAIndHlInc
  | .ldLD8 d => exact hLdImm .l d
  | .ldSpD16 d => exact hLdPair .sp d
  | .ldIndHlDecA => exact hLdIndHlDecA
  | .ldIndHlD8 d => exact hLdIndHlD8 d
  | .ldAIndHlDec => exact hLdAIndHlDec
  | .ldAD8 d => exact hLdImm .a d
  | .ldBB => exact hLd .b .b
  | .ldBC => exact hLd .b .c
  | .ldBD => exact hLd .b .d
  | .ldBE => exact hLd .b .e
  | .ldBH => exact hLd .b .h
  | .ldBL => exact hLd .b .l
  | .ldBIndHl => exact hLdFromHl .b
  | .ldBA => exact hLd .b .a
  | .ldCB => exact hLd .c .b
  | .ldCC => exact hLd .c .c
  | .ldCD => exact hLd .c .d
  | .ldCE => exact hLd .c .e
  | .ldCH => exact hLd .c .h
  | .ldCL => exact hLd .c .l
  | .ldCIndHl => exact hLdFromHl .c
  | .ldCA => exact hLd .c .a
  | .ldDB => exact hLd .d .b
  | .ldDC => exact hLd .d .c
  | .ldDD => exact hLd .d .d
  | .ldDE => exact hLd .d .e
  | .ldDH => exact hLd .d .h
  | .ldDL => exact hLd .d .l
  | .ldDIndHl => exact hLdFromHl .d
  | .ldDA => exact hLd .d .a
  | .ldEB => exact hLd .e .b
  | .ldEC => exact hLd .e .c
  | .ldED => exact hLd .e .d
  | .ldEE => exact hLd .e .e
  | .ldEH => exact hLd .e .h
  | .ldEL => exact hLd .e .l
  | .ldEIndHl => exact hLdFromHl .e
  | .ldEA => exact hLd .e .a
  | .ldHB => exact hLd .h .b
  | .ldHC => exact hLd .h .c
  | .ldHD => exact hLd .h .d
  | .ldHE => exact hLd .h .e
  | .ldHH => exact hLd .h .h
  | .ldHL => exact hLd .h .l
  | .ldHIndHl => exact hLdFromHl .h
  | .ldHA => exact hLd .h .a
  | .ldLB => exact hLd .l .b
  | .ldLC => exact hLd .l .c
  | .ldLD => exact hLd .l .d
  | .ldLE => exact hLd .l .e
  | .ldLH => exact hLd .l .h
  | .ldLL => exact hLd .l .l
  | .ldLIndHl => exact hLdFromHl .l
  | .ldLA => exact hLd .l .a
  | .ldIndHlB => exact hLdToHl .b
  | .ldIndHlC => exact hLdToHl .c
  | .ldIndHlD => exact hLdToHl .d
  | .ldIndHlE => exact hLdToHl .e
  | .ldIndHlH => exact hLdToHl .h
  | .ldIndHlL => exact hLdToHl .l
  | .ldIndHlA => exact hLdToHl .a
  | .ldAB => exact hLd .a .b
  | .ldAC => exact hLd .a .c
  | .ldAD => exact hLd .a .d
  | .ldAE => exact hLd .a .e
  | .ldAH => exact hLd .a .h
  | .ldAL => exact hLd .a .l
  | .ldAIndHl => exact hLdFromHl .a
  | .ldAA => exact hLd .a .a
  | .popBc => exact hPop .bc
  | .pushBc => exact hPush .bc
  | .popDe => exact hPop .de
  | .pushDe => exact hPush .de
  | .ldhIndA8A n => exact hLdhIndA8A n
  | .popHl => exact hPop .hl
  | .ldhIndCA => exact hLdhIndCA
  | .pushHl => exact hPush .hl
  | .ldIndA16A a => exact hLdIndA16A a
  | .ldhAIndA8 n => exact hLdhAIndA8 n
  | .popAf => exact hPop .af
  | .ldhAIndC => exact hLdhAIndC
  | .pushAf => exact hPush .af
  | .ldHlSpE8 e => exact hLdHlSpE8 e
  | .ldSpHl => exact hLdSpHl
  | .ldAIndA16 a => exact hLdAIndA16 a
  | .incB => exact hInc (.reg .b)
  | .decB => exact hDec (.reg .b)
  | .rlca => exact hRlca
  | .incC => exact hInc (.reg .c)
  | .decC => exact hDec (.reg .c)
  | .rrca => exact hRrca
  | .incD => exact hInc (.reg .d)
  | .decD => exact hDec (.reg .d)
  | .rla => exact hRla
  | .incE => exact hInc (.reg .e)
  | .decE => exact hDec (.reg .e)
  | .rra => exact hRra
  | .incH => exact hInc (.reg .h)
  | .decH => exact hDec (.reg .h)
  | .daa => exact hDaa
  | .incL => exact hInc (.reg .l)
  | .decL => exact hDec (.reg .l)
  | .cpl => exact hCpl
  | .incIndHl => exact hInc .hlInd
  | .decIndHl => exact hDec .hlInd
  | .scf => exact hScf
  | .incA => exact hInc (.reg .a)
  | .decA => exact hDec (.reg .a)
  | .ccf => exact hCcf
  | .addAB => exact hAlu .add (.reg .b)
  | .addAC => exact hAlu .add (.reg .c)
  | .addAD => exact hAlu .add (.reg .d)
  | .addAE => exact hAlu .add (.reg .e)
  | .addAH => exact hAlu .add (.reg .h)
  | .addAL => exact hAlu .add (.reg .l)
  | .addAIndHl => exact hAlu .add .hlInd
  | .addAA => exact hAlu .add (.reg .a)
  | .adcAB => exact hAlu .adc (.reg .b)
  | .adcAC => exact hAlu .adc (.reg .c)
  | .adcAD => exact hAlu .adc (.reg .d)
  | .adcAE => exact hAlu .adc (.reg .e)
  | .adcAH => exact hAlu .adc (.reg .h)
  | .adcAL => exact hAlu .adc (.reg .l)
  | .adcAIndHl => exact hAlu .adc .hlInd
  | .adcAA => exact hAlu .adc (.reg .a)
  | .subAB => exact hAlu .sub (.reg .b)
  | .subAC => exact hAlu .sub (.reg .c)
  | .subAD => exact hAlu .sub (.reg .d)
  | .subAE => exact hAlu .sub (.reg .e)
  | .subAH => exact hAlu .sub (.reg .h)
  | .subAL => exact hAlu .sub (.reg .l)
  | .subAIndHl => exact hAlu .sub .hlInd
  | .subAA => exact hAlu .sub (.reg .a)
  | .sbcAB => exact hAlu .sbc (.reg .b)
  | .sbcAC => exact hAlu .sbc (.reg .c)
  | .sbcAD => exact hAlu .sbc (.reg .d)
  | .sbcAE => exact hAlu .sbc (.reg .e)
  | .sbcAH => exact hAlu .sbc (.reg .h)
  | .sbcAL => exact hAlu .sbc (.reg .l)
  | .sbcAIndHl => exact hAlu .sbc .hlInd
  | .sbcAA => exact hAlu .sbc (.reg .a)
  | .andAB => exact hAlu .and (.reg .b)
  | .andAC => exact hAlu .and (.reg .c)
  | .andAD => exact hAlu .and (.reg .d)
  | .andAE => exact hAlu .and (.reg .e)
  | .andAH => exact hAlu .and (.reg .h)
  | .andAL => exact hAlu .and (.reg .l)
  | .andAIndHl => exact hAlu .and .hlInd
  | .andAA => exact hAlu .and (.reg .a)
  | .xorAB => exact hAlu .xor (.reg .b)
  | .xorAC => exact hAlu .xor (.reg .c)
  | .xorAD => exact hAlu .xor (.reg .d)
  | .xorAE => exact hAlu .xor (.reg .e)
  | .xorAH => exact hAlu .xor (.reg .h)
  | .xorAL => exact hAlu .xor (.reg .l)
  | .xorAIndHl => exact hAlu .xor .hlInd
  | .xorAA => exact hAlu .xor (.reg .a)
  | .orAB => exact hAlu .or (.reg .b)
  | .orAC => exact hAlu .or (.reg .c)
  | .orAD => exact hAlu .or (.reg .d)
  | .orAE => exact hAlu .or (.reg .e)
  | .orAH => exact hAlu .or (.reg .h)
  | .orAL => exact hAlu .or (.reg .l)
  | .orAIndHl => exact hAlu .or .hlInd
  | .orAA => exact hAlu .or (.reg .a)
  | .cpAB => exact hAlu .cp (.reg .b)
  | .cpAC => exact hAlu .cp (.reg .c)
  | .cpAD => exact hAlu .cp (.reg .d)
  | .cpAE => exact hAlu .cp (.reg .e)
  | .cpAH => exact hAlu .cp (.reg .h)
  | .cpAL => exact hAlu .cp (.reg .l)
  | .cpAIndHl => exact hAlu .cp .hlInd
  | .cpAA => exact hAlu .cp (.reg .a)
  | .addAD8 d => exact hAluImm .add d
  | .adcAD8 d => exact hAluImm .adc d
  | .subAD8 d => exact hAluImm .sub d
  | .sbcAD8 d => exact hAluImm .sbc d
  | .andAD8 d => exact hAluImm .and d
  | .xorAD8 d => exact hAluImm .xor d
  | .orAD8 d => exact hAluImm .or d
  | .cpAD8 d => exact hAluImm .cp d
  | .incBc => exact hIncPair .bc
  | .addHlBc => exact hAddHl .bc
  | .decBc => exact hDecPair .bc
  | .incDe => exact hIncPair .de
  | .addHlDe => exact hAddHl .de
  | .decDe => exact hDecPair .de
  | .incHl => exact hIncPair .hl
  | .addHlHl => exact hAddHl .hl
  | .decHl => exact hDecPair .hl
  | .incSp => exact hIncPair .sp
  | .addHlSp => exact hAddHl .sp
  | .decSp => exact hDecPair .sp
  | .addSpE8 e => exact hAddSpE8 e
  | .jrE8 e => exact hJrE8 e
  | .jrNzE8 e => exact hJrIf .nz e
  | .jrZE8 e => exact hJrIf .z e
  | .jrNcE8 e => exact hJrIf .nc e
  | .jrCE8 e => exact hJrIf .c e
  | .retNz => exact hRetIf .nz
  | .jpNzA16 a => exact hJpIf .nz a
  | .jpA16 a => exact hJpA16 a
  | .callNzA16 a => exact hCallIf .nz a
  | .rst00 => exact hRst 0
  | .retZ => exact hRetIf .z
  | .ret => exact hRet
  | .jpZA16 a => exact hJpIf .z a
  | .callZA16 a => exact hCallIf .z a
  | .callA16 a => exact hCallA16 a
  | .rst08 => exact hRst 1
  | .retNc => exact hRetIf .nc
  | .jpNcA16 a => exact hJpIf .nc a
  | .callNcA16 a => exact hCallIf .nc a
  | .rst10 => exact hRst 2
  | .retC => exact hRetIf .c
  | .reti => exact hReti
  | .jpCA16 a => exact hJpIf .c a
  | .callCA16 a => exact hCallIf .c a
  | .rst18 => exact hRst 3
  | .rst20 => exact hRst 4
  | .jpHl => exact hJpHl
  | .rst28 => exact hRst 5
  | .rst30 => exact hRst 6
  | .rst38 => exact hRst 7
  | .nop => exact hNop
  | .stop => exact hStop
  | .halt => exact hHalt
  | .illegalD3 => exact hUndefined (0xD3, .illegalD3) (by decide)
  | .illegalDB => exact hUndefined (0xDB, .illegalDB) (by decide)
  | .illegalDD => exact hUndefined (0xDD, .illegalDD) (by decide)
  | .illegalE3 => exact hUndefined (0xE3, .illegalE3) (by decide)
  | .illegalE4 => exact hUndefined (0xE4, .illegalE4) (by decide)
  | .illegalEB => exact hUndefined (0xEB, .illegalEB) (by decide)
  | .illegalEC => exact hUndefined (0xEC, .illegalEC) (by decide)
  | .illegalED => exact hUndefined (0xED, .illegalED) (by decide)
  | .di => exact hDi
  | .illegalF4 => exact hUndefined (0xF4, .illegalF4) (by decide)
  | .ei => exact hEi
  | .illegalFC => exact hUndefined (0xFC, .illegalFC) (by decide)
  | .illegalFD => exact hUndefined (0xFD, .illegalFD) (by decide)
  | .prefixCb => exact hPrefixCb
  | .rlcB => exact hRot .rlc (.reg .b)
  | .rlcC => exact hRot .rlc (.reg .c)
  | .rlcD => exact hRot .rlc (.reg .d)
  | .rlcE => exact hRot .rlc (.reg .e)
  | .rlcH => exact hRot .rlc (.reg .h)
  | .rlcL => exact hRot .rlc (.reg .l)
  | .rlcIndHl => exact hRot .rlc .hlInd
  | .rlcA => exact hRot .rlc (.reg .a)
  | .rrcB => exact hRot .rrc (.reg .b)
  | .rrcC => exact hRot .rrc (.reg .c)
  | .rrcD => exact hRot .rrc (.reg .d)
  | .rrcE => exact hRot .rrc (.reg .e)
  | .rrcH => exact hRot .rrc (.reg .h)
  | .rrcL => exact hRot .rrc (.reg .l)
  | .rrcIndHl => exact hRot .rrc .hlInd
  | .rrcA => exact hRot .rrc (.reg .a)
  | .rlB => exact hRot .rl (.reg .b)
  | .rlC => exact hRot .rl (.reg .c)
  | .rlD => exact hRot .rl (.reg .d)
  | .rlE => exact hRot .rl (.reg .e)
  | .rlH => exact hRot .rl (.reg .h)
  | .rlL => exact hRot .rl (.reg .l)
  | .rlIndHl => exact hRot .rl .hlInd
  | .rlA => exact hRot .rl (.reg .a)
  | .rrB => exact hRot .rr (.reg .b)
  | .rrC => exact hRot .rr (.reg .c)
  | .rrD => exact hRot .rr (.reg .d)
  | .rrE => exact hRot .rr (.reg .e)
  | .rrH => exact hRot .rr (.reg .h)
  | .rrL => exact hRot .rr (.reg .l)
  | .rrIndHl => exact hRot .rr .hlInd
  | .rrA => exact hRot .rr (.reg .a)
  | .slaB => exact hRot .sla (.reg .b)
  | .slaC => exact hRot .sla (.reg .c)
  | .slaD => exact hRot .sla (.reg .d)
  | .slaE => exact hRot .sla (.reg .e)
  | .slaH => exact hRot .sla (.reg .h)
  | .slaL => exact hRot .sla (.reg .l)
  | .slaIndHl => exact hRot .sla .hlInd
  | .slaA => exact hRot .sla (.reg .a)
  | .sraB => exact hRot .sra (.reg .b)
  | .sraC => exact hRot .sra (.reg .c)
  | .sraD => exact hRot .sra (.reg .d)
  | .sraE => exact hRot .sra (.reg .e)
  | .sraH => exact hRot .sra (.reg .h)
  | .sraL => exact hRot .sra (.reg .l)
  | .sraIndHl => exact hRot .sra .hlInd
  | .sraA => exact hRot .sra (.reg .a)
  | .swapB => exact hRot .swap (.reg .b)
  | .swapC => exact hRot .swap (.reg .c)
  | .swapD => exact hRot .swap (.reg .d)
  | .swapE => exact hRot .swap (.reg .e)
  | .swapH => exact hRot .swap (.reg .h)
  | .swapL => exact hRot .swap (.reg .l)
  | .swapIndHl => exact hRot .swap .hlInd
  | .swapA => exact hRot .swap (.reg .a)
  | .srlB => exact hRot .srl (.reg .b)
  | .srlC => exact hRot .srl (.reg .c)
  | .srlD => exact hRot .srl (.reg .d)
  | .srlE => exact hRot .srl (.reg .e)
  | .srlH => exact hRot .srl (.reg .h)
  | .srlL => exact hRot .srl (.reg .l)
  | .srlIndHl => exact hRot .srl .hlInd
  | .srlA => exact hRot .srl (.reg .a)
  | .bit0B => exact hBit 0 (.reg .b)
  | .bit0C => exact hBit 0 (.reg .c)
  | .bit0D => exact hBit 0 (.reg .d)
  | .bit0E => exact hBit 0 (.reg .e)
  | .bit0H => exact hBit 0 (.reg .h)
  | .bit0L => exact hBit 0 (.reg .l)
  | .bit0IndHl => exact hBit 0 .hlInd
  | .bit0A => exact hBit 0 (.reg .a)
  | .bit1B => exact hBit 1 (.reg .b)
  | .bit1C => exact hBit 1 (.reg .c)
  | .bit1D => exact hBit 1 (.reg .d)
  | .bit1E => exact hBit 1 (.reg .e)
  | .bit1H => exact hBit 1 (.reg .h)
  | .bit1L => exact hBit 1 (.reg .l)
  | .bit1IndHl => exact hBit 1 .hlInd
  | .bit1A => exact hBit 1 (.reg .a)
  | .bit2B => exact hBit 2 (.reg .b)
  | .bit2C => exact hBit 2 (.reg .c)
  | .bit2D => exact hBit 2 (.reg .d)
  | .bit2E => exact hBit 2 (.reg .e)
  | .bit2H => exact hBit 2 (.reg .h)
  | .bit2L => exact hBit 2 (.reg .l)
  | .bit2IndHl => exact hBit 2 .hlInd
  | .bit2A => exact hBit 2 (.reg .a)
  | .bit3B => exact hBit 3 (.reg .b)
  | .bit3C => exact hBit 3 (.reg .c)
  | .bit3D => exact hBit 3 (.reg .d)
  | .bit3E => exact hBit 3 (.reg .e)
  | .bit3H => exact hBit 3 (.reg .h)
  | .bit3L => exact hBit 3 (.reg .l)
  | .bit3IndHl => exact hBit 3 .hlInd
  | .bit3A => exact hBit 3 (.reg .a)
  | .bit4B => exact hBit 4 (.reg .b)
  | .bit4C => exact hBit 4 (.reg .c)
  | .bit4D => exact hBit 4 (.reg .d)
  | .bit4E => exact hBit 4 (.reg .e)
  | .bit4H => exact hBit 4 (.reg .h)
  | .bit4L => exact hBit 4 (.reg .l)
  | .bit4IndHl => exact hBit 4 .hlInd
  | .bit4A => exact hBit 4 (.reg .a)
  | .bit5B => exact hBit 5 (.reg .b)
  | .bit5C => exact hBit 5 (.reg .c)
  | .bit5D => exact hBit 5 (.reg .d)
  | .bit5E => exact hBit 5 (.reg .e)
  | .bit5H => exact hBit 5 (.reg .h)
  | .bit5L => exact hBit 5 (.reg .l)
  | .bit5IndHl => exact hBit 5 .hlInd
  | .bit5A => exact hBit 5 (.reg .a)
  | .bit6B => exact hBit 6 (.reg .b)
  | .bit6C => exact hBit 6 (.reg .c)
  | .bit6D => exact hBit 6 (.reg .d)
  | .bit6E => exact hBit 6 (.reg .e)
  | .bit6H => exact hBit 6 (.reg .h)
  | .bit6L => exact hBit 6 (.reg .l)
  | .bit6IndHl => exact hBit 6 .hlInd
  | .bit6A => exact hBit 6 (.reg .a)
  | .bit7B => exact hBit 7 (.reg .b)
  | .bit7C => exact hBit 7 (.reg .c)
  | .bit7D => exact hBit 7 (.reg .d)
  | .bit7E => exact hBit 7 (.reg .e)
  | .bit7H => exact hBit 7 (.reg .h)
  | .bit7L => exact hBit 7 (.reg .l)
  | .bit7IndHl => exact hBit 7 .hlInd
  | .bit7A => exact hBit 7 (.reg .a)
  | .res0B => exact hRes 0 (.reg .b)
  | .res0C => exact hRes 0 (.reg .c)
  | .res0D => exact hRes 0 (.reg .d)
  | .res0E => exact hRes 0 (.reg .e)
  | .res0H => exact hRes 0 (.reg .h)
  | .res0L => exact hRes 0 (.reg .l)
  | .res0IndHl => exact hRes 0 .hlInd
  | .res0A => exact hRes 0 (.reg .a)
  | .res1B => exact hRes 1 (.reg .b)
  | .res1C => exact hRes 1 (.reg .c)
  | .res1D => exact hRes 1 (.reg .d)
  | .res1E => exact hRes 1 (.reg .e)
  | .res1H => exact hRes 1 (.reg .h)
  | .res1L => exact hRes 1 (.reg .l)
  | .res1IndHl => exact hRes 1 .hlInd
  | .res1A => exact hRes 1 (.reg .a)
  | .res2B => exact hRes 2 (.reg .b)
  | .res2C => exact hRes 2 (.reg .c)
  | .res2D => exact hRes 2 (.reg .d)
  | .res2E => exact hRes 2 (.reg .e)
  | .res2H => exact hRes 2 (.reg .h)
  | .res2L => exact hRes 2 (.reg .l)
  | .res2IndHl => exact hRes 2 .hlInd
  | .res2A => exact hRes 2 (.reg .a)
  | .res3B => exact hRes 3 (.reg .b)
  | .res3C => exact hRes 3 (.reg .c)
  | .res3D => exact hRes 3 (.reg .d)
  | .res3E => exact hRes 3 (.reg .e)
  | .res3H => exact hRes 3 (.reg .h)
  | .res3L => exact hRes 3 (.reg .l)
  | .res3IndHl => exact hRes 3 .hlInd
  | .res3A => exact hRes 3 (.reg .a)
  | .res4B => exact hRes 4 (.reg .b)
  | .res4C => exact hRes 4 (.reg .c)
  | .res4D => exact hRes 4 (.reg .d)
  | .res4E => exact hRes 4 (.reg .e)
  | .res4H => exact hRes 4 (.reg .h)
  | .res4L => exact hRes 4 (.reg .l)
  | .res4IndHl => exact hRes 4 .hlInd
  | .res4A => exact hRes 4 (.reg .a)
  | .res5B => exact hRes 5 (.reg .b)
  | .res5C => exact hRes 5 (.reg .c)
  | .res5D => exact hRes 5 (.reg .d)
  | .res5E => exact hRes 5 (.reg .e)
  | .res5H => exact hRes 5 (.reg .h)
  | .res5L => exact hRes 5 (.reg .l)
  | .res5IndHl => exact hRes 5 .hlInd
  | .res5A => exact hRes 5 (.reg .a)
  | .res6B => exact hRes 6 (.reg .b)
  | .res6C => exact hRes 6 (.reg .c)
  | .res6D => exact hRes 6 (.reg .d)
  | .res6E => exact hRes 6 (.reg .e)
  | .res6H => exact hRes 6 (.reg .h)
  | .res6L => exact hRes 6 (.reg .l)
  | .res6IndHl => exact hRes 6 .hlInd
  | .res6A => exact hRes 6 (.reg .a)
  | .res7B => exact hRes 7 (.reg .b)
  | .res7C => exact hRes 7 (.reg .c)
  | .res7D => exact hRes 7 (.reg .d)
  | .res7E => exact hRes 7 (.reg .e)
  | .res7H => exact hRes 7 (.reg .h)
  | .res7L => exact hRes 7 (.reg .l)
  | .res7IndHl => exact hRes 7 .hlInd
  | .res7A => exact hRes 7 (.reg .a)
  | .set0B => exact hSet 0 (.reg .b)
  | .set0C => exact hSet 0 (.reg .c)
  | .set0D => exact hSet 0 (.reg .d)
  | .set0E => exact hSet 0 (.reg .e)
  | .set0H => exact hSet 0 (.reg .h)
  | .set0L => exact hSet 0 (.reg .l)
  | .set0IndHl => exact hSet 0 .hlInd
  | .set0A => exact hSet 0 (.reg .a)
  | .set1B => exact hSet 1 (.reg .b)
  | .set1C => exact hSet 1 (.reg .c)
  | .set1D => exact hSet 1 (.reg .d)
  | .set1E => exact hSet 1 (.reg .e)
  | .set1H => exact hSet 1 (.reg .h)
  | .set1L => exact hSet 1 (.reg .l)
  | .set1IndHl => exact hSet 1 .hlInd
  | .set1A => exact hSet 1 (.reg .a)
  | .set2B => exact hSet 2 (.reg .b)
  | .set2C => exact hSet 2 (.reg .c)
  | .set2D => exact hSet 2 (.reg .d)
  | .set2E => exact hSet 2 (.reg .e)
  | .set2H => exact hSet 2 (.reg .h)
  | .set2L => exact hSet 2 (.reg .l)
  | .set2IndHl => exact hSet 2 .hlInd
  | .set2A => exact hSet 2 (.reg .a)
  | .set3B => exact hSet 3 (.reg .b)
  | .set3C => exact hSet 3 (.reg .c)
  | .set3D => exact hSet 3 (.reg .d)
  | .set3E => exact hSet 3 (.reg .e)
  | .set3H => exact hSet 3 (.reg .h)
  | .set3L => exact hSet 3 (.reg .l)
  | .set3IndHl => exact hSet 3 .hlInd
  | .set3A => exact hSet 3 (.reg .a)
  | .set4B => exact hSet 4 (.reg .b)
  | .set4C => exact hSet 4 (.reg .c)
  | .set4D => exact hSet 4 (.reg .d)
  | .set4E => exact hSet 4 (.reg .e)
  | .set4H => exact hSet 4 (.reg .h)
  | .set4L => exact hSet 4 (.reg .l)
  | .set4IndHl => exact hSet 4 .hlInd
  | .set4A => exact hSet 4 (.reg .a)
  | .set5B => exact hSet 5 (.reg .b)
  | .set5C => exact hSet 5 (.reg .c)
  | .set5D => exact hSet 5 (.reg .d)
  | .set5E => exact hSet 5 (.reg .e)
  | .set5H => exact hSet 5 (.reg .h)
  | .set5L => exact hSet 5 (.reg .l)
  | .set5IndHl => exact hSet 5 .hlInd
  | .set5A => exact hSet 5 (.reg .a)
  | .set6B => exact hSet 6 (.reg .b)
  | .set6C => exact hSet 6 (.reg .c)
  | .set6D => exact hSet 6 (.reg .d)
  | .set6E => exact hSet 6 (.reg .e)
  | .set6H => exact hSet 6 (.reg .h)
  | .set6L => exact hSet 6 (.reg .l)
  | .set6IndHl => exact hSet 6 .hlInd
  | .set6A => exact hSet 6 (.reg .a)
  | .set7B => exact hSet 7 (.reg .b)
  | .set7C => exact hSet 7 (.reg .c)
  | .set7D => exact hSet 7 (.reg .d)
  | .set7E => exact hSet 7 (.reg .e)
  | .set7H => exact hSet 7 (.reg .h)
  | .set7L => exact hSet 7 (.reg .l)
  | .set7IndHl => exact hSet 7 .hlInd
  | .set7A => exact hSet 7 (.reg .a)

end Sys2Proof
end

