-- ==== Sys2Proof/Laws/Evolves.lean ====
section
/-!
SUPPORT. What every instruction but the system ones can do, said once: a sequence of register updates, ticks and bus writes. Every
invariant of the machine is a fact about such sequences.
-/

namespace Sys2Proof.Machine

/-- `t` follows from `s` by register updates that keep the low nibble of F zero, ticks and bus writes. -/
inductive Evolves (s : State) : State → Prop where
  | refl : Evolves s s
  | regs {t : State} (r : Regs) (h : Evolves s t) (hf : t.regs.f &&& 0x0F = 0 → r.f &&& 0x0F = 0) :
      Evolves s { t with regs := r }
  | tick {t : State} (h : Evolves s t) : Evolves s t.tick
  | write {t : State} (a : Word) (v : Byte) (h : Evolves s t) : Evolves s (routeWrite a v t)

namespace Evolves

variable {s t u : State}

theorem trans (h1 : Evolves s t) (h2 : Evolves t u) : Evolves s u := by
  induction h2 with
  | refl => exact h1
  | regs r _ hf ih => exact ih.regs r hf
  | tick _ ih => exact ih.tick
  | write a v _ ih => exact ih.write a v

theorem ticks (n : Nat) (h : Evolves s t) : Evolves s (t.ticks n) := by
  induction n with
  | zero => exact h
  | succ n ih => rw [ticks_succ]; exact ih.tick

theorem memWrite (a : Word) (v : Byte) (h : Evolves s t) : Evolves s (memWrite a v t) := (h.write a v).tick

theorem setReg (r : R8) (v : Byte) (h : Evolves s t) : Evolves s (t.setReg r v) := by
  have e : t.setReg r v = { t with regs := (t.setReg r v).regs } := by cases r <;> rfl
  rw [e]
  exact h.regs _ fun hf => by rw [setReg_f]; exact hf

theorem setPair (p : R16) (v : Word) (h : Evolves s t) : Evolves s (t.setPair p v) := by
  have e : t.setPair p v = { t with regs := (t.setPair p v).regs } := by cases p <;> rfl
  rw [e]
  exact h.regs _ fun hf => by rw [setPair_f]; exact hf

theorem setPc (v : Word) (h : Evolves s t) : Evolves s (t.setPc v) := h.regs _ fun hf => hf

theorem setFlags (z n x c : Bool) (h : Evolves s t) : Evolves s (t.setFlags z n x c) :=
  h.regs _ fun _ => packFlags_low z n x c

theorem setStkPair (p : RStk) (v : Word) (h : Evolves s t) : Evolves s (t.setStkPair p v) := by
  cases p with
  | bc => exact h.setPair .bc v
  | de => exact h.setPair .de v
  | hl => exact h.setPair .hl v
  | af =>
    refine h.regs _ fun _ => ?_
    show loByte v &&& 0xF0 &&& 0x0F = 0
    rw [BitVec.and_assoc]
    exact BitVec.and_zero

theorem push16 (v : Word) (h : Evolves s t) : Evolves s (push16 v t) :=
  ((((h.setPair .sp _).memWrite _ _).setPair .sp _).memWrite _ _)

theorem pop16 (h : Evolves s t) : Evolves s (pop16 t).2 := (h.tick.setPair .sp _).tick.setPair .sp _

theorem readOpnd (x : Opnd8) (h : Evolves s t) : Evolves s (readOpnd x t).2 := by
  cases x with
  | reg r => exact h
  | hlInd => exact h.tick

theorem writeOpnd (x : Opnd8) (v : Byte) (h : Evolves s t) : Evolves s (writeOpnd x v t) := by
  cases x with
  | reg r => exact h.setReg r v
  | hlInd => exact h.memWrite _ v

theorem applyAlu (op : AluOp) (v : Byte) (h : Evolves s t) : Evolves s (applyAlu op v t) := by
  unfold Machine.applyAlu
  dsimp only
  split
  · exact (h.setReg .a _).setFlags _ _ _ _
  · exact h.setFlags _ _ _ _

theorem call (a : Word) (h : Evolves s t) : Evolves s (call a t) := (h.tick.push16 _).setPc a

theorem ret (h : Evolves s t) : Evolves s (ret t) := h.pop16.tick.setPc _

theorem jumpRel (e : Byte) (h : Evolves s t) : Evolves s (jumpRel e t) := h.tick.setPc _

theorem loadReg (r : R8) (a : Word) (h : Evolves s t) : Evolves s (loadReg r a t) := h.tick.setReg r _

/-! ### What such a sequence keeps -/

theorem keepsIme (h : Evolves s t) : keepsIme s t := by
  induction h with
  | refl => exact ⟨rfl, rfl⟩
  | regs r _ _ ih => exact ih
  | tick _ ih => exact ih
  | write a v _ ih => exact ⟨(routeWrite_ime a v _).trans ih.1, (routeWrite_imeState a v _).trans ih.2⟩

theorem keepsControl (h : Evolves s t) : keepsControl s t := by
  induction h with
  | refl => exact ⟨rfl, rfl, rfl, rfl, rfl⟩
  | regs r _ _ ih => exact ih
  | tick _ ih => exact ih
  | write a v _ ih =>
    obtain ⟨h1, h2, h3, h4, h5⟩ := ih
    exact ⟨(routeWrite_halt a v _).trans h1, (routeWrite_fault a v _).trans h2, (routeWrite_budget a v _).trans h3,
      (routeWrite_params a v _).trans h4, (routeWrite_opPc a v _).trans h5⟩

theorem memOk (h : Evolves s t) (hs : s.memOk) : t.memOk := by
  induction h with
  | refl => exact hs
  | regs r _ _ ih => exact ih
  | tick _ ih => exact ih
  | write a v _ ih => exact routeWrite_memOk a v _ ih

theorem flagsOk (h : Evolves s t) (hs : s.flagsOk) : t.flagsOk := by
  induction h with
  | refl => exact hs
  | regs r _ hf ih => exact hf ih
  | tick _ ih => exact ih
  | write a v _ ih => unfold State.flagsOk; rw [routeWrite_regs]; exact ih

theorem edgeOk (h : Evolves s t) (hs : s.dev.timer.edgeOk) : t.dev.timer.edgeOk := by
  induction h with
  | refl => exact hs
  | regs r _ _ ih => exact ih
  | tick _ ih => exact tick_edgeOk _ _
  | write a v _ ih => exact (routeWrite_dev a v _).edgeOk ih

theorem displayOk (h : Evolves s t) (hs : s.dev.display.ok) : t.dev.display.ok := by
  induction h with
  | refl => exact hs
  | regs r _ _ ih => exact ih
  | tick _ ih => exact tick_display_ok _ _ ih
  | write a v _ ih => exact (routeWrite_dev a v _).display_ok ih

theorem storedKeys_rom (a : Word) (k : Nat) (hk : k < 0x8000) : k ∉ storedKeys a := by
  unfold storedKeys
  split
  · intro h
    obtain ⟨i, _, e⟩ := List.mem_map.1 h
    omega
  · split
    · exact List.not_mem_nil
    · rename_i hge
      intro h
      rw [Option.mem_toList] at h
      have hb := region_bounds a
      unfold storageKey at h
      cases hr : region a <;> rw [hr] at h hb <;> simp only [reduceCtorEq, Option.some.injEq] at h <;>
        simp only [Region.first, Region.last] at hb <;> omega

/-- The image of the cartridge is never written (R111). -/
theorem rom (h : Evolves s t) (k : Nat) (hk : k < 0x8000) : t.mem.read k = s.mem.read k := by
  induction h with
  | refl => rfl
  | regs r _ _ ih => exact ih
  | tick _ ih => exact ih
  | write a v _ ih => exact (routeWrite_keepsMem a v _ k (storedKeys_rom a k hk)).trans ih

end Evolves

/-! ### Which instructions evolve -/

/-- The rows that also act on the master enable, the halt state or the fault. -/
def isSystem (i : Instr) : Prop :=
  i = .di ∨ i = .ei ∨ i = .reti ∨ i = .halt ∨ i = .stop ∨ i ∈ Instr.undefinedRows.map Prod.snd

/-- `i` answers a state that evolves from where it starts. -/
def evolves (i : Instr) : Prop := ∀ s : State, ∃ t, exec i s = .next t ∧ Evolves s t

theorem evolves_of {i : Instr} {f : State → State} (he : ∀ s, exec i s = .next (f s)) (h : ∀ s, Evolves s (f s)) : evolves i :=
  fun s => ⟨f s, he s, h s⟩

theorem evolves_rot (op : RotOp) (x : Opnd8) : evolves (.rowRot op x) :=
  evolves_of (exec_rowRot op x) fun _ => ((Evolves.refl.readOpnd x).writeOpnd x _).setFlags _ _ _ _

theorem evolves_bit (b : Fin 8) (x : Opnd8) : evolves (.rowBit b x) :=
  evolves_of (exec_rowBit b x) fun _ => (Evolves.refl.readOpnd x).setFlags _ _ _ _

theorem evolves_res (b : Fin 8) (x : Opnd8) : evolves (.rowRes b x) :=
  evolves_of (exec_rowRes b x) fun _ => (Evolves.refl.readOpnd x).writeOpnd x _

theorem evolves_set (b : Fin 8) (x : Opnd8) : evolves (.rowSet b x) :=
  evolves_of (exec_rowSet b x) fun _ => (Evolves.refl.readOpnd x).writeOpnd x _

theorem evolves_prefixCb : evolves .prefixCb := by
  intro s
  rw [exec_prefixCb]
  obtain ⟨t, he, h⟩ := secondaryRow_cases evolves_rot evolves_bit evolves_res evolves_set (routeRead s.regs.pc s)
    (s.tick.setPc (s.regs.pc + 1))
  exact ⟨t, he, (Evolves.refl.tick.setPc _).trans h⟩

/-- Every instruction is a system row or evolves. -/
theorem evolves_or_system (i : Instr) : isSystem i ∨ evolves i := by
  induction i using Instr.byRows with
  | hLd r r' => exact .inr (evolves_of (exec_rowLd r r') fun _ => Evolves.refl.setReg _ _)
  | hLdImm r v => exact .inr (evolves_of (exec_rowLdImm r v) fun _ => Evolves.refl.setReg _ _)
  | hLdFromHl r => exact .inr (evolves_of (exec_rowLdFromHl r) fun _ => Evolves.refl.loadReg _ _)
  | hLdToHl r => exact .inr (evolves_of (exec_rowLdToHl r) fun _ => Evolves.refl.memWrite _ _)
  | hLdPair p w => exact .inr (evolves_of (exec_rowLdPair p w) fun _ => Evolves.refl.setPair _ _)
  | hPush p => exact .inr (evolves_of (exec_rowPush p) fun _ => Evolves.refl.tick.push16 _)
  | hPop p => exact .inr (evolves_of (exec_rowPop p) fun _ => Evolves.refl.pop16.setStkPair _ _)
  | hAlu op x => exact .inr (evolves_of (exec_rowAlu op x) fun _ => (Evolves.refl.readOpnd x).applyAlu op _)
  | hAluImm op v => exact .inr (evolves_of (exec_rowAluImm op v) fun _ => Evolves.refl.applyAlu op _)
  | hInc x => exact .inr (evolves_of (exec_rowInc x) fun _ => ((Evolves.refl.readOpnd x).writeOpnd x _).setFlags _ _ _ _)
  | hDec x => exact .inr (evolves_of (exec_rowDec x) fun _ => ((Evolves.refl.readOpnd x).writeOpnd x _).setFlags _ _ _ _)
  | hIncPair p => exact .inr (evolves_of (exec_rowIncPair p) fun _ => Evolves.refl.tick.setPair _ _)
  | hDecPair p => exact .inr (evolves_of (exec_rowDecPair p) fun _ => Evolves.refl.tick.setPair _ _)
  | hAddHl p => exact .inr (evolves_of (exec_rowAddHl p) fun _ => (Evolves.refl.tick.setPair _ _).setFlags _ _ _ _)
  | hJrIf cc e =>
    refine .inr (evolves_of (exec_rowJrIf cc e) fun s => ?_)
    unfold jumpRelIf
    split
    · exact Evolves.refl.jumpRel e
    · exact .refl
  | hJpIf cc a =>
    refine .inr (evolves_of (exec_rowJpIf cc a) fun s => ?_)
    unfold jumpIf
    split
    · exact Evolves.refl.tick.setPc a
    · exact .refl
  | hCallIf cc a =>
    refine .inr (evolves_of (exec_rowCallIf cc a) fun s => ?_)
    unfold callIf
    split
    · exact Evolves.refl.call a
    · exact .refl
  | hRetIf cc =>
    refine .inr (evolves_of (exec_rowRetIf cc) fun s => ?_)
    unfold retIf
    dsimp only
    split
    · exact Evolves.refl.tick.ret
    · exact Evolves.refl.tick
  | hRst n => exact .inr (evolves_of (exec_rowRst n) fun _ => Evolves.refl.call _)
  | hRot op x => exact .inr (evolves_rot op x)
  | hBit b x => exact .inr (evolves_bit b x)
  | hRes b x => exact .inr (evolves_res b x)
  | hSet b x => exact .inr (evolves_set b x)
  | hLdIndBcA | hLdIndDeA | hLdhIndCA => exact .inr (evolves_of (fun _ => rfl) fun _ => Evolves.refl.memWrite _ _)
  | hLdIndHlD8 v => exact .inr (evolves_of (fun _ => rfl) fun _ => Evolves.refl.memWrite _ _)
  | hLdhIndA8A n => exact .inr (evolves_of (fun _ => rfl) fun _ => Evolves.refl.memWrite _ _)
  | hLdIndA16A a => exact .inr (evolves_of (fun _ => rfl) fun _ => Evolves.refl.memWrite _ _)
  | hLdIndA16Sp a => exact .inr (evolves_of (fun _ => rfl) fun _ => (Evolves.refl.memWrite _ _).memWrite _ _)
  | hLdAIndBc | hLdAIndDe | hLdhAIndC => exact .inr (evolves_of (fun _ => rfl) fun _ => Evolves.refl.loadReg _ _)
  | hLdhAIndA8 n => exact .inr (evolves_of (fun _ => rfl) fun _ => Evolves.refl.loadReg _ _)
  | hLdAIndA16 a => exact .inr (evolves_of (fun _ => rfl) fun _ => Evolves.refl.loadReg _ _)
  | hLdAIndHlInc | hLdAIndHlDec =>
    exact .inr (evolves_of (fun _ => rfl) fun _ => (Evolves.refl.loadReg _ _).setPair .hl _)
  | hLdIndHlIncA | hLdIndHlDecA =>
    exact .inr (evolves_of (fun _ => rfl) fun _ => (Evolves.refl.memWrite _ _).setPair .hl _)
  | hLdHlSpE8 e => exact .inr (evolves_of (fun _ => rfl) fun _ => (Evolves.refl.tick.setPair _ _).setFlags _ _ _ _)
  | hLdSpHl => exact .inr (evolves_of (fun _ => rfl) fun _ => Evolves.refl.tick.setPair .sp _)
  | hRlca | hRrca | hRla | hRra | hDaa | hCpl =>
    exact .inr (evolves_of (fun _ => rfl) fun _ => (Evolves.refl.setReg _ _).setFlags _ _ _ _)
  | hScf | hCcf => exact .inr (evolves_of (fun _ => rfl) fun _ => Evolves.refl.setFlags _ _ _ _)
  | hAddSpE8 e => exact .inr (evolves_of (fun _ => rfl) fun _ => ((Evolves.refl.ticks 2).setPair _ _).setFlags _ _ _ _)
  | hJrE8 e => exact .inr (evolves_of (fun _ => rfl) fun _ => Evolves.refl.jumpRel e)
  | hJpA16 a => exact .inr (evolves_of (fun _ => rfl) fun _ => Evolves.refl.tick.setPc a)
  | hJpHl => exact .inr (evolves_of (fun _ => rfl) fun _ => Evolves.refl.setPc _)
  | hRet => exact .inr (evolves_of (fun _ => rfl) fun _ => Evolves.refl.ret)
  | hCallA16 a => exact .inr (evolves_of (fun _ => rfl) fun _ => Evolves.refl.call a)
  | hNop => exact .inr (evolves_of (fun _ => rfl) fun _ => .refl)
  | hPrefixCb => exact .inr evolves_prefixCb
  | hReti => exact .inl (by simp [isSystem])
  | hStop => exact .inl (by simp [isSystem])
  | hHalt => exact .inl (by simp [isSystem])
  | hDi => exact .inl (by simp [isSystem])
  | hEi => exact .inl (by simp [isSystem])
  | hUndefined x hx => exact .inl (.inr (.inr (.inr (.inr (.inr (List.mem_map_of_mem hx))))))

end Sys2Proof.Machine
end

