-- ==== Sys2Proof/Laws/Flags.lean ====
section
/-!
SUPPORT. Every computation of Machine/Flags.lean in arithmetic: one lemma per result and flag.
-/

namespace Sys2Proof.Machine

theorem lowNibble_eq (v : Byte) : lowNibble v = v.toNat % 16 := by
  show (v &&& 0x0F).toNat = _
  rw [BitVec.toNat_and]
  exact Nat.and_two_pow_sub_one_eq_mod v.toNat 4

/-- A byte is zero when its number is. -/
theorem byte_beq_zero (v : Byte) : (v == 0) = decide (v.toNat = 0) := by
  rw [Bool.eq_iff_iff]
  simp only [beq_iff_eq, decide_eq_true_eq]
  exact ⟨fun h => by rw [h]; rfl, fun h => BitVec.eq_of_toNat_eq h⟩

theorem add8_val (a b : Byte) (c : Bool) : (add8 a b c).val.toNat = (a.toNat + b.toNat + c.toNat) % 256 :=
  BitVec.toNat_ofNat _ _

theorem add8_z (a b : Byte) (c : Bool) : (add8 a b c).z = decide ((a.toNat + b.toNat + c.toNat) % 256 = 0) := by
  rw [← add8_val]; exact byte_beq_zero _

theorem add8_h (a b : Byte) (c : Bool) : (add8 a b c).h = decide (15 < a.toNat % 16 + b.toNat % 16 + c.toNat) := by
  rw [← lowNibble_eq, ← lowNibble_eq]; rfl

theorem sub8_val (a b : Byte) (c : Bool) : ((sub8 a b c).val.toNat : Int) = ((a.toNat : Int) - b.toNat - c.toNat) % 256 := by
  have e : (sub8 a b c).val = a - b - BitVec.ofNat 8 c.toNat := rfl
  have ha := a.isLt
  have hb := b.isLt
  rw [e]
  cases c <;> simp only [BitVec.toNat_sub, BitVec.toNat_ofNat, Bool.toNat_true, Bool.toNat_false] <;> omega

theorem sub8_z (a b : Byte) (c : Bool) :
    (sub8 a b c).z = decide (((a.toNat : Int) - b.toNat - c.toNat) % 256 = 0) := by
  rw [← sub8_val]
  have : (sub8 a b c).z = ((sub8 a b c).val == 0) := rfl
  rw [this, byte_beq_zero]
  simp only [Int.natCast_eq_zero]

theorem sub8_h (a b : Byte) (c : Bool) : (sub8 a b c).h = decide (a.toNat % 16 < b.toNat % 16 + c.toNat) := by
  rw [← lowNibble_eq, ← lowNibble_eq]; rfl

theorem inc8_h (v : Byte) (c : Bool) : (inc8 v c).h = decide (v.toNat % 16 = 15) := by
  rw [← lowNibble_eq]
  exact (beq_eq_decide _ _)

theorem dec8_h (v : Byte) (c : Bool) : (dec8 v c).h = decide (v.toNat % 16 = 0) := by
  rw [← lowNibble_eq]
  exact (beq_eq_decide _ _)

/-- DAA in arithmetic (R269). -/
theorem daa8_val (a : Byte) (n h c : Bool) :
    let high := c || (!n && decide (0x99 < a.toNat))
    let low := h || (!n && decide (9 < a.toNat % 16))
    let correction : Int := (if high then 0x60 else 0) + (if low then 0x06 else 0)
    ((daa8 a n h c).val.toNat : Int) =
      (if n then ((a.toNat : Int) - correction) % 256 else ((a.toNat : Int) + correction) % 256) ∧
      (daa8 a n h c).c = high := by
  revert a
  cases n <;> cases h <;> cases c <;> decide

theorem daa8_flags (a : Byte) (n h c : Bool) :
    (daa8 a n h c).z = ((daa8 a n h c).val == 0) ∧ (daa8 a n h c).n = n ∧ (daa8 a n h c).h = false := by
  cases n <;> exact ⟨rfl, rfl, rfl⟩

theorem rot8_val (op : RotOp) (v : Byte) (c : Bool) : (rot8 op v c).val.toNat = rotated op v.toNat c.toNat := by
  revert v
  cases op <;> cases c <;> decide

theorem rot8_z (op : RotOp) (v : Byte) (c : Bool) : (rot8 op v c).z = ((rot8 op v c).val == 0) := by cases op <;> rfl

theorem rot8_n (op : RotOp) (v : Byte) (c : Bool) : (rot8 op v c).n = false := by cases op <;> rfl

theorem rot8_h (op : RotOp) (v : Byte) (c : Bool) : (rot8 op v c).h = false := by cases op <;> rfl

theorem rot8_c (op : RotOp) (v : Byte) (c : Bool) : (rot8 op v c).c = rotatedOut op v.toNat := by
  revert v
  cases op <;> cases c <;> decide

theorem sext16_toInt (e : Byte) : ((sext16 e).toNat : Int) = signedByte e % 65536 := by
  revert e; decide

theorem spPlusE8_val (sp : Word) (e : Byte) :
    ((spPlusE8 sp e).val.toNat : Int) = (sp.toNat + signedByte e) % 65536 := by
  have h : (spPlusE8 sp e).val.toNat = (sp.toNat + (sext16 e).toNat) % 65536 := BitVec.toNat_add _ _
  have := sext16_toInt e
  omega

theorem spPlusE8_h (sp : Word) (e : Byte) : (spPlusE8 sp e).h = decide (15 < sp.toNat % 16 + e.toNat % 16) := by
  show decide ((sp &&& 0x000F).toNat + (e &&& 0x0F).toNat > 0x0F) = _
  rw [BitVec.toNat_and, BitVec.toNat_and]
  rw [show (0x000F : Word).toNat = 2 ^ 4 - 1 from rfl, show (0x0F : Byte).toNat = 2 ^ 4 - 1 from rfl,
    Nat.and_two_pow_sub_one_eq_mod, Nat.and_two_pow_sub_one_eq_mod]

theorem spPlusE8_c (sp : Word) (e : Byte) : (spPlusE8 sp e).c = decide (255 < sp.toNat % 256 + e.toNat) := by
  show decide ((sp &&& 0x00FF).toNat + e.toNat > 0xFF) = _
  rw [BitVec.toNat_and]
  rw [show (0x00FF : Word).toNat = 2 ^ 8 - 1 from rfl, Nat.and_two_pow_sub_one_eq_mod]

theorem addWords_val (a b : Word) : (addWords a b).val.toNat = (a.toNat + b.toNat) % 65536 := BitVec.toNat_add _ _

theorem addWords_h (a b : Word) : (addWords a b).h = decide (4095 < a.toNat % 4096 + b.toNat % 4096) := by
  show decide ((a &&& 0x0FFF).toNat + (b &&& 0x0FFF).toNat > 0x0FFF) = _
  rw [BitVec.toNat_and, BitVec.toNat_and]
  rw [show (0x0FFF : Word).toNat = 2 ^ 12 - 1 from rfl, Nat.and_two_pow_sub_one_eq_mod, Nat.and_two_pow_sub_one_eq_mod]

end Sys2Proof.Machine
end

