-- ==== Sys2Proof/Laws/PerInstr.lean ====
section
/-!
SUPPORT. Statements made instruction by instruction. `EncodedLength`: an instruction is one, two or three bytes long
(30_encoding.md R153).
-/

namespace Sys2Proof.Laws

/-- The encoding of `i` has one, two or three bytes. -/
def EncodedLength.Statement (i : Instr) : Prop := 1 ≤ (encode i).length ∧ (encode i).length ≤ 3

theorem EncodedLength.ldBcD16 (d : Word) : EncodedLength.Statement (.ldBcD16 d) := ⟨Nat.succ_pos _, Nat.le_of_ble_eq_true rfl⟩
theorem EncodedLength.ldIndBcA : EncodedLength.Statement .ldIndBcA := ⟨Nat.succ_pos _, Nat.le_of_ble_eq_true rfl⟩
theorem EncodedLength.ldBD8 (d : Byte) : EncodedLength.Statement (.ldBD8 d) := ⟨Nat.succ_pos _, Nat.le_of_ble_eq_true rfl⟩
theorem EncodedLength.ldIndA16Sp (a : Word) : EncodedLength.Statement (.ldIndA16Sp a) := ⟨Nat.succ_pos _, Nat.le_of_ble_eq_true rfl⟩
theorem EncodedLength.ldAIndBc : EncodedLength.Statement .ldAIndBc := ⟨Nat.succ_pos _, Nat.le_of_ble_eq_true rfl⟩
theorem EncodedLength.ldCD8 (d : Byte) : EncodedLength.Statement (.ldCD8 d) := ⟨Nat.succ_pos _, Nat.le_of_ble_eq_true rfl⟩
theorem EncodedLength.ldDeD16 (d : Word) : EncodedLength.Statement (.ldDeD16 d) := ⟨Nat.succ_pos _, Nat.le_of_ble_eq_true rfl⟩
theorem EncodedLength.ldIndDeA : EncodedLength.Statement .ldIndDeA := ⟨Nat.succ_pos _, Nat.le_of_ble_eq_true rfl⟩
theorem EncodedLength.ldDD8 (d : Byte) : EncodedLength.Statement (.ldDD8 d) := ⟨Nat.succ_pos _, Nat.le_of_ble_eq_true rfl⟩
theorem EncodedLength.ldAIndDe : EncodedLength.Statement .ldAIndDe := ⟨Nat.succ_pos _, Nat.le_of_ble_eq_true rfl⟩
theorem EncodedLength.ldED8 (d : Byte) : EncodedLength.Statement (.ldED8 d) := ⟨Nat.succ_pos _, Nat.le_of_ble_eq_true rfl⟩
theorem EncodedLength.ldHlD16 (d : Word) : EncodedLength.Statement (.ldHlD16 d) := ⟨Nat.succ_pos _, Nat.le_of_ble_eq_true rfl⟩
theorem EncodedLength.ldIndHlIncA : EncodedLength.Statement .ldIndHlIncA := ⟨Nat.succ_pos _, Nat.le_of_ble_eq_true rfl⟩
theorem EncodedLength.ldHD8 (d : Byte) : EncodedLength.Statement (.ldHD8 d) := ⟨Nat.succ_pos _, Nat.le_of_ble_eq_true rfl⟩
theorem EncodedLength.ldAIndHlInc : EncodedLength.Statement .ldAIndHlInc := ⟨Nat.succ_pos _, Nat.le_of_ble_eq_true rfl⟩
theorem EncodedLength.ldLD8 (d : Byte) : EncodedLength.Statement (.ldLD8 d) := ⟨Nat.succ_pos _, Nat.le_of_ble_eq_true rfl⟩
theorem EncodedLength.ldSpD16 (d : Word) : EncodedLength.Statement (.ldSpD16 d) := ⟨Nat.succ_pos _, Nat.le_of_ble_eq_true rfl⟩
theorem EncodedLength.ldIndHlDecA : EncodedLength.Statement .ldIndHlDecA := ⟨Nat.succ_pos _, Nat.le_of_ble_eq_true rfl⟩
theorem EncodedLength.ldIndHlD8 (d : Byte) : EncodedLength.Statement (.ldIndHlD8 d) := ⟨Nat.succ_pos _, Nat.le_of_ble_eq_true rfl⟩
theorem EncodedLength.ldAIndHlDec : EncodedLength.Statement .ldAIndHlDec := ⟨Nat.succ_pos _, Nat.le_of_ble_eq_true rfl⟩
theorem EncodedLength.ldAD8 (d : Byte) : EncodedLength.Statement (.ldAD8 d) := ⟨Nat.succ_pos _, Nat.le_of_ble_eq_true rfl⟩
theorem EncodedLength.ldBB : EncodedLength.Statement .ldBB := ⟨Nat.succ_pos _, Nat.le_of_ble_eq_true rfl⟩
theorem EncodedLength.ldBC : EncodedLength.Statement .ldBC := ⟨Nat.succ_pos _, Nat.le_of_ble_eq_true rfl⟩
theorem EncodedLength.ldBD : EncodedLength.Statement .ldBD := ⟨Nat.succ_pos _, Nat.le_of_ble_eq_true rfl⟩
theorem EncodedLength.ldBE : EncodedLength.Statement .ldBE := ⟨Nat.succ_pos _, Nat.le_of_ble_eq_true rfl⟩
theorem EncodedLength.ldBH : EncodedLength.Statement .ldBH := ⟨Nat.succ_pos _, Nat.le_of_ble_eq_true rfl⟩
theorem EncodedLength.ldBL : EncodedLength.Statement .ldBL := ⟨Nat.succ_pos _, Nat.le_of_ble_eq_true rfl⟩
theorem EncodedLength.ldBIndHl : EncodedLength.Statement .ldBIndHl := ⟨Nat.succ_pos _, Nat.le_of_ble_eq_true rfl⟩
theorem EncodedLength.ldBA : EncodedLength.Statement .ldBA := ⟨Nat.succ_pos _, Nat.le_of_ble_eq_true rfl⟩
theorem EncodedLength.ldCB : EncodedLength.Statement .ldCB := ⟨Nat.succ_pos _, Nat.le_of_ble_eq_true rfl⟩
theorem EncodedLength.ldCC : EncodedLength.Statement .ldCC := ⟨Nat.succ_pos _, Nat.le_of_ble_eq_true rfl⟩
theorem EncodedLength.ldCD : EncodedLength.Statement .ldCD := ⟨Nat.succ_pos _, Nat.le_of_ble_eq_true rfl⟩
theorem EncodedLength.ldCE : EncodedLength.Statement .ldCE := ⟨Nat.succ_pos _, Nat.le_of_ble_eq_true rfl⟩
theorem EncodedLength.ldCH : EncodedLength.Statement .ldCH := ⟨Nat.succ_pos _, Nat.le_of_ble_eq_true rfl⟩
theorem EncodedLength.ldCL : EncodedLength.Statement .ldCL := ⟨Nat.succ_pos _, Nat.le_of_ble_eq_true rfl⟩
theorem EncodedLength.ldCIndHl : EncodedLength.Statement .ldCIndHl := ⟨Nat.succ_pos _, Nat.le_of_ble_eq_true rfl⟩
theorem EncodedLength.ldCA : EncodedLength.Statement .ldCA := ⟨Nat.succ_pos _, Nat.le_of_ble_eq_true rfl⟩
theorem EncodedLength.ldDB : EncodedLength.Statement .ldDB := ⟨Nat.succ_pos _, Nat.le_of_ble_eq_true rfl⟩
theorem EncodedLength.ldDC : EncodedLength.Statement .ldDC := ⟨Nat.succ_pos _, Nat.le_of_ble_eq_true rfl⟩
theorem EncodedLength.ldDD : EncodedLength.Statement .ldDD := ⟨Nat.succ_pos _, Nat.le_of_ble_eq_true rfl⟩
theorem EncodedLength.ldDE : EncodedLength.Statement .ldDE := ⟨Nat.succ_pos _, Nat.le_of_ble_eq_true rfl⟩
theorem EncodedLength.ldDH : EncodedLength.Statement .ldDH := ⟨Nat.succ_pos _, Nat.le_of_ble_eq_true rfl⟩
theorem EncodedLength.ldDL : EncodedLength.Statement .ldDL := ⟨Nat.succ_pos _, Nat.le_of_ble_eq_true rfl⟩
theorem EncodedLength.ldDIndHl : EncodedLength.Statement .ldDIndHl := ⟨Nat.succ_pos _, Nat.le_of_ble_eq_true rfl⟩
theorem EncodedLength.ldDA : EncodedLength.Statement .ldDA := ⟨Nat.succ_pos _, Nat.le_of_ble_eq_true rfl⟩
theorem EncodedLength.ldEB : EncodedLength.Statement .ldEB := ⟨Nat.succ_pos _, Nat.le_of_ble_eq_true rfl⟩
theorem EncodedLength.ldEC : EncodedLength.Statement .ldEC := ⟨Nat.succ_pos _, Nat.le_of_ble_eq_true rfl⟩
theorem EncodedLength.ldED : EncodedLength.Statement .ldED := ⟨Nat.succ_pos _, Nat.le_of_ble_eq_true rfl⟩
theorem EncodedLength.ldEE : EncodedLength.Statement .ldEE := ⟨Nat.succ_pos _, Nat.le_of_ble_eq_true rfl⟩
theorem EncodedLength.ldEH : EncodedLength.Statement .ldEH := ⟨Nat.succ_pos _, Nat.le_of_ble_eq_true rfl⟩
theorem EncodedLength.ldEL : EncodedLength.Statement .ldEL := ⟨Nat.succ_pos _, Nat.le_of_ble_eq_true rfl⟩
theorem EncodedLength.ldEIndHl : EncodedLength.Statement .ldEIndHl := ⟨Nat.succ_pos _, Nat.le_of_ble_eq_true rfl⟩
theorem EncodedLength.ldEA : EncodedLength.Statement .ldEA := ⟨Nat.succ_pos _, Nat.le_of_ble_eq_true rfl⟩
theorem EncodedLength.ldHB : EncodedLength.Statement .ldHB := ⟨Nat.succ_pos _, Nat.le_of_ble_eq_true rfl⟩
theorem EncodedLength.ldHC : EncodedLength.Statement .ldHC := ⟨Nat.succ_pos _, Nat.le_of_ble_eq_true rfl⟩
theorem EncodedLength.ldHD : EncodedLength.Statement .ldHD := ⟨Nat.succ_pos _, Nat.le_of_ble_eq_true rfl⟩
theorem EncodedLength.ldHE : EncodedLength.Statement .ldHE := ⟨Nat.succ_pos _, Nat.le_of_ble_eq_true rfl⟩
theorem EncodedLength.ldHH : EncodedLength.Statement .ldHH := ⟨Nat.succ_pos _, Nat.le_of_ble_eq_true rfl⟩
theorem EncodedLength.ldHL : EncodedLength.Statement .ldHL := ⟨Nat.succ_pos _, Nat.le_of_ble_eq_true rfl⟩
theorem EncodedLength.ldHIndHl : EncodedLength.Statement .ldHIndHl := ⟨Nat.succ_pos _, Nat.le_of_ble_eq_true rfl⟩
theorem EncodedLength.ldHA : EncodedLength.Statement .ldHA := ⟨Nat.succ_pos _, Nat.le_of_ble_eq_true rfl⟩
theorem EncodedLength.ldLB : EncodedLength.Statement .ldLB := ⟨Nat.succ_pos _, Nat.le_of_ble_eq_true rfl⟩
theorem EncodedLength.ldLC : EncodedLength.Statement .ldLC := ⟨Nat.succ_pos _, Nat.le_of_ble_eq_true rfl⟩
theorem EncodedLength.ldLD : EncodedLength.Statement .ldLD := ⟨Nat.succ_pos _, Nat.le_of_ble_eq_true rfl⟩
theorem EncodedLength.ldLE : EncodedLength.Statement .ldLE := ⟨Nat.succ_pos _, Nat.le_of_ble_eq_true rfl⟩
theorem EncodedLength.ldLH : EncodedLength.Statement .ldLH := ⟨Nat.succ_pos _, Nat.le_of_ble_eq_true rfl⟩
theorem EncodedLength.ldLL : EncodedLength.Statement .ldLL := ⟨Nat.succ_pos _, Nat.le_of_ble_eq_true rfl⟩
theorem EncodedLength.ldLIndHl : EncodedLength.Statement .ldLIndHl := ⟨Nat.succ_pos _, Nat.le_of_ble_eq_true rfl⟩
theorem EncodedLength.ldLA : EncodedLength.Statement .ldLA := ⟨Nat.succ_pos _, Nat.le_of_ble_eq_true rfl⟩
theorem EncodedLength.ldIndHlB : EncodedLength.Statement .ldIndHlB := ⟨Nat.succ_pos _, Nat.le_of_ble_eq_true rfl⟩
theorem EncodedLength.ldIndHlC : EncodedLength.Statement .ldIndHlC := ⟨Nat.succ_pos _, Nat.le_of_ble_eq_true rfl⟩
theorem EncodedLength.ldIndHlD : EncodedLength.Statement .ldIndHlD := ⟨Nat.succ_pos _, Nat.le_of_ble_eq_true rfl⟩
theorem EncodedLength.ldIndHlE : EncodedLength.Statement .ldIndHlE := ⟨Nat.succ_pos _, Nat.le_of_ble_eq_true rfl⟩
theorem EncodedLength.ldIndHlH : EncodedLength.Statement .ldIndHlH := ⟨Nat.succ_pos _, Nat.le_of_ble_eq_true rfl⟩
theorem EncodedLength.ldIndHlL : EncodedLength.Statement .ldIndHlL := ⟨Nat.succ_pos _, Nat.le_of_ble_eq_true rfl⟩
theorem EncodedLength.ldIndHlA : EncodedLength.Statement .ldIndHlA := ⟨Nat.succ_pos _, Nat.le_of_ble_eq_true rfl⟩
theorem EncodedLength.ldAB : EncodedLength.Statement .ldAB := ⟨Nat.succ_pos _, Nat.le_of_ble_eq_true rfl⟩
theorem EncodedLength.ldAC : EncodedLength.Statement .ldAC := ⟨Nat.succ_pos _, Nat.le_of_ble_eq_true rfl⟩
theorem EncodedLength.ldAD : EncodedLength.Statement .ldAD := ⟨Nat.succ_pos _, Nat.le_of_ble_eq_true rfl⟩
theorem EncodedLength.ldAE : EncodedLength.Statement .ldAE := ⟨Nat.succ_pos _, Nat.le_of_ble_eq_true rfl⟩
theorem EncodedLength.ldAH : EncodedLength.Statement .ldAH := ⟨Nat.succ_pos _, Nat.le_of_ble_eq_true rfl⟩
theorem EncodedLength.ldAL : EncodedLength.Statement .ldAL := ⟨Nat.succ_pos _, Nat.le_of_ble_eq_true rfl⟩
theorem EncodedLength.ldAIndHl : EncodedLength.Statement .ldAIndHl := ⟨Nat.succ_pos _, Nat.le_of_ble_eq_true rfl⟩
theorem EncodedLength.ldAA : EncodedLength.Statement .ldAA := ⟨Nat.succ_pos _, Nat.le_of_ble_eq_true rfl⟩
theorem EncodedLength.popBc : EncodedLength.Statement .popBc := ⟨Nat.succ_pos _, Nat.le_of_ble_eq_true rfl⟩
theorem EncodedLength.pushBc : EncodedLength.Statement .pushBc := ⟨Nat.succ_pos _, Nat.le_of_ble_eq_true rfl⟩
theorem EncodedLength.popDe : EncodedLength.Statement .popDe := ⟨Nat.succ_pos _, Nat.le_of_ble_eq_true rfl⟩
theorem EncodedLength.pushDe : EncodedLength.Statement .pushDe := ⟨Nat.succ_pos _, Nat.le_of_ble_eq_true rfl⟩
theorem EncodedLength.ldhIndA8A (n : Byte) : EncodedLength.Statement (.ldhIndA8A n) := ⟨Nat.succ_pos _, Nat.le_of_ble_eq_true rfl⟩
theorem EncodedLength.popHl : EncodedLength.Statement .popHl := ⟨Nat.succ_pos _, Nat.le_of_ble_eq_true rfl⟩
theorem EncodedLength.ldhIndCA : EncodedLength.Statement .ldhIndCA := ⟨Nat.succ_pos _, Nat.le_of_ble_eq_true rfl⟩
theorem EncodedLength.pushHl : EncodedLength.Statement .pushHl := ⟨Nat.succ_pos _, Nat.le_of_ble_eq_true rfl⟩
theorem EncodedLength.ldIndA16A (a : Word) : EncodedLength.Statement (.ldIndA16A a) := ⟨Nat.succ_pos _, Nat.le_of_ble_eq_true rfl⟩
theorem EncodedLength.ldhAIndA8 (n : Byte) : EncodedLength.Statement (.ldhAIndA8 n) := ⟨Nat.succ_pos _, Nat.le_of_ble_eq_true rfl⟩
theorem EncodedLength.popAf : EncodedLength.Statement .popAf := ⟨Nat.succ_pos _, Nat.le_of_ble_eq_true rfl⟩
theorem EncodedLength.ldhAIndC : EncodedLength.Statement .ldhAIndC := ⟨Nat.succ_pos _, Nat.le_of_ble_eq_true rfl⟩
theorem EncodedLength.pushAf : EncodedLength.Statement .pushAf := ⟨Nat.succ_pos _, Nat.le_of_ble_eq_true rfl⟩
theorem EncodedLength.ldHlSpE8 (e : Byte) : EncodedLength.Statement (.ldHlSpE8 e) := ⟨Nat.succ_pos _, Nat.le_of_ble_eq_true rfl⟩
theorem EncodedLength.ldSpHl : EncodedLength.Statement .ldSpHl := ⟨Nat.succ_pos _, Nat.le_of_ble_eq_true rfl⟩
theorem EncodedLength.ldAIndA16 (a : Word) : EncodedLength.Statement (.ldAIndA16 a) := ⟨Nat.succ_pos _, Nat.le_of_ble_eq_true rfl⟩
theorem EncodedLength.incB : EncodedLength.Statement .incB := ⟨Nat.succ_pos _, Nat.le_of_ble_eq_true rfl⟩
theorem EncodedLength.decB : EncodedLength.Statement .decB := ⟨Nat.succ_pos _, Nat.le_of_ble_eq_true rfl⟩
theorem EncodedLength.rlca : EncodedLength.Statement .rlca := ⟨Nat.succ_pos _, Nat.le_of_ble_eq_true rfl⟩
theorem EncodedLength.incC : EncodedLength.Statement .incC := ⟨Nat.succ_pos _, Nat.le_of_ble_eq_true rfl⟩
theorem EncodedLength.decC : EncodedLength.Statement .decC := ⟨Nat.succ_pos _, Nat.le_of_ble_eq_true rfl⟩
theorem EncodedLength.rrca : EncodedLength.Statement .rrca := ⟨Nat.succ_pos _, Nat.le_of_ble_eq_true rfl⟩
theorem EncodedLength.incD : EncodedLength.Statement .incD := ⟨Nat.succ_pos _, Nat.le_of_ble_eq_true rfl⟩
theorem EncodedLength.decD : EncodedLength.Statement .decD := ⟨Nat.succ_pos _, Nat.le_of_ble_eq_true rfl⟩
theorem EncodedLength.rla : EncodedLength.Statement .rla := ⟨Nat.succ_pos _, Nat.le_of_ble_eq_true rfl⟩
theorem EncodedLength.incE : EncodedLength.Statement .incE := ⟨Nat.succ_pos _, Nat.le_of_ble_eq_true rfl⟩
theorem EncodedLength.decE : EncodedLength.Statement .decE := ⟨Nat.succ_pos _, Nat.le_of_ble_eq_true rfl⟩
theorem EncodedLength.rra : EncodedLength.Statement .rra := ⟨Nat.succ_pos _, Nat.le_of_ble_eq_true rfl⟩
theorem EncodedLength.incH : EncodedLength.Statement .incH := ⟨Nat.succ_pos _, Nat.le_of_ble_eq_true rfl⟩
theorem EncodedLength.decH : EncodedLength.Statement .decH := ⟨Nat.succ_pos _, Nat.le_of_ble_eq_true rfl⟩
theorem EncodedLength.daa : EncodedLength.Statement .daa := ⟨Nat.succ_pos _, Nat.le_of_ble_eq_true rfl⟩
theorem EncodedLength.incL : EncodedLength.Statement .incL := ⟨Nat.succ_pos _, Nat.le_of_ble_eq_true rfl⟩
theorem EncodedLength.decL : EncodedLength.Statement .decL := ⟨Nat.succ_pos _, Nat.le_of_ble_eq_true rfl⟩
theorem EncodedLength.cpl : EncodedLength.Statement .cpl := ⟨Nat.succ_pos _, Nat.le_of_ble_eq_true rfl⟩
theorem EncodedLength.incIndHl : EncodedLength.Statement .incIndHl := ⟨Nat.succ_pos _, Nat.le_of_ble_eq_true rfl⟩
theorem EncodedLength.decIndHl : EncodedLength.Statement .decIndHl := ⟨Nat.succ_pos _, Nat.le_of_ble_eq_true rfl⟩
theorem EncodedLength.scf : EncodedLength.Statement .scf := ⟨Nat.succ_pos _, Nat.le_of_ble_eq_true rfl⟩
theorem EncodedLength.incA : EncodedLength.Statement .incA := ⟨Nat.succ_pos _, Nat.le_of_ble_eq_true rfl⟩
theorem EncodedLength.decA : EncodedLength.Statement .decA := ⟨Nat.succ_pos _, Nat.le_of_ble_eq_true rfl⟩
theorem EncodedLength.ccf : EncodedLength.Statement .ccf := ⟨Nat.succ_pos _, Nat.le_of_ble_eq_true rfl⟩
theorem EncodedLength.addAB : EncodedLength.Statement .addAB := ⟨Nat.succ_pos _, Nat.le_of_ble_eq_true rfl⟩
theorem EncodedLength.addAC : EncodedLength.Statement .addAC := ⟨Nat.succ_pos _, Nat.le_of_ble_eq_true rfl⟩
theorem EncodedLength.addAD : EncodedLength.Statement .addAD := ⟨Nat.succ_pos _, Nat.le_of_ble_eq_true rfl⟩
theorem EncodedLength.addAE : EncodedLength.Statement .addAE := ⟨Nat.succ_pos _, Nat.le_of_ble_eq_true rfl⟩
theorem EncodedLength.addAH : EncodedLength.Statement .addAH := ⟨Nat.succ_pos _, Nat.le_of_ble_eq_true rfl⟩
theorem EncodedLength.addAL : EncodedLength.Statement .addAL := ⟨Nat.succ_pos _, Nat.le_of_ble_eq_true rfl⟩
theorem EncodedLength.addAIndHl : EncodedLength.Statement .addAIndHl := ⟨Nat.succ_pos _, Nat.le_of_ble_eq_true rfl⟩
theorem EncodedLength.addAA : EncodedLength.Statement .addAA := ⟨Nat.succ_pos _, Nat.le_of_ble_eq_true rfl⟩
theorem EncodedLength.adcAB : EncodedLength.Statement .adcAB := ⟨Nat.succ_pos _, Nat.le_of_ble_eq_true rfl⟩
theorem EncodedLength.adcAC : EncodedLength.Statement .adcAC := ⟨Nat.succ_pos _, Nat.le_of_ble_eq_true rfl⟩
theorem EncodedLength.adcAD : EncodedLength.Statement .adcAD := ⟨Nat.succ_pos _, Nat.le_of_ble_eq_true rfl⟩
theorem EncodedLength.adcAE : EncodedLength.Statement .adcAE := ⟨Nat.succ_pos _, Nat.le_of_ble_eq_true rfl⟩
theorem EncodedLength.adcAH : EncodedLength.Statement .adcAH := ⟨Nat.succ_pos _, Nat.le_of_ble_eq_true rfl⟩
theorem EncodedLength.adcAL : EncodedLength.Statement .adcAL := ⟨Nat.succ_pos _, Nat.le_of_ble_eq_true rfl⟩
theorem EncodedLength.adcAIndHl : EncodedLength.Statement .adcAIndHl := ⟨Nat.succ_pos _, Nat.le_of_ble_eq_true rfl⟩
theorem EncodedLength.adcAA : EncodedLength.Statement .adcAA := ⟨Nat.succ_pos _, Nat.le_of_ble_eq_true rfl⟩
theorem EncodedLength.subAB : EncodedLength.Statement .subAB := ⟨Nat.succ_pos _, Nat.le_of_ble_eq_true rfl⟩
theorem EncodedLength.subAC : EncodedLength.Statement .subAC := ⟨Nat.succ_pos _, Nat.le_of_ble_eq_true rfl⟩
theorem EncodedLength.subAD : EncodedLength.Statement .subAD := ⟨Nat.succ_pos _, Nat.le_of_ble_eq_true rfl⟩
theorem EncodedLength.subAE : EncodedLength.Statement .subAE := ⟨Nat.succ_pos _, Nat.le_of_ble_eq_true rfl⟩
theorem EncodedLength.subAH : EncodedLength.Statement .subAH := ⟨Nat.succ_pos _, Nat.le_of_ble_eq_true rfl⟩
theorem EncodedLength.subAL : EncodedLength.Statement .subAL := ⟨Nat.succ_pos _, Nat.le_of_ble_eq_true rfl⟩
theorem EncodedLength.subAIndHl : EncodedLength.Statement .subAIndHl := ⟨Nat.succ_pos _, Nat.le_of_ble_eq_true rfl⟩
theorem EncodedLength.subAA : EncodedLength.Statement .subAA := ⟨Nat.succ_pos _, Nat.le_of_ble_eq_true rfl⟩
theorem EncodedLength.sbcAB : EncodedLength.Statement .sbcAB := ⟨Nat.succ_pos _, Nat.le_of_ble_eq_true rfl⟩
theorem EncodedLength.sbcAC : EncodedLength.Statement .sbcAC := ⟨Nat.succ_pos _, Nat.le_of_ble_eq_true rfl⟩
theorem EncodedLength.sbcAD : EncodedLength.Statement .sbcAD := ⟨Nat.succ_pos _, Nat.le_of_ble_eq_true rfl⟩
theorem EncodedLength.sbcAE : EncodedLength.Statement .sbcAE := ⟨Nat.succ_pos _, Nat.le_of_ble_eq_true rfl⟩
theorem EncodedLength.sbcAH : EncodedLength.Statement .sbcAH := ⟨Nat.succ_pos _, Nat.le_of_ble_eq_true rfl⟩
theorem EncodedLength.sbcAL : EncodedLength.Statement .sbcAL := ⟨Nat.succ_pos _, Nat.le_of_ble_eq_true rfl⟩
theorem EncodedLength.sbcAIndHl : EncodedLength.Statement .sbcAIndHl := ⟨Nat.succ_pos _, Nat.le_of_ble_eq_true rfl⟩
theorem EncodedLength.sbcAA : EncodedLength.Statement .sbcAA := ⟨Nat.succ_pos _, Nat.le_of_ble_eq_true rfl⟩
theorem EncodedLength.andAB : EncodedLength.Statement .andAB := ⟨Nat.succ_pos _, Nat.le_of_ble_eq_true rfl⟩
theorem EncodedLength.andAC : EncodedLength.Statement .andAC := ⟨Nat.succ_pos _, Nat.le_of_ble_eq_true rfl⟩
theorem EncodedLength.andAD : EncodedLength.Statement .andAD := ⟨Nat.succ_pos _, Nat.le_of_ble_eq_true rfl⟩
theorem EncodedLength.andAE : EncodedLength.Statement .andAE := ⟨Nat.succ_pos _, Nat.le_of_ble_eq_true rfl⟩
theorem EncodedLength.andAH : EncodedLength.Statement .andAH := ⟨Nat.succ_pos _, Nat.le_of_ble_eq_true rfl⟩
theorem EncodedLength.andAL : EncodedLength.Statement .andAL := ⟨Nat.succ_pos _, Nat.le_of_ble_eq_true rfl⟩
theorem EncodedLength.andAIndHl : EncodedLength.Statement .andAIndHl := ⟨Nat.succ_pos _, Nat.le_of_ble_eq_true rfl⟩
theorem EncodedLength.andAA : EncodedLength.Statement .andAA := ⟨Nat.succ_pos _, Nat.le_of_ble_eq_true rfl⟩
theorem EncodedLength.xorAB : EncodedLength.Statement .xorAB := ⟨Nat.succ_pos _, Nat.le_of_ble_eq_true rfl⟩
theorem EncodedLength.xorAC : EncodedLength.Statement .xorAC := ⟨Nat.succ_pos _, Nat.le_of_ble_eq_true rfl⟩
theorem EncodedLength.xorAD : EncodedLength.Statement .xorAD := ⟨Nat.succ_pos _, Nat.le_of_ble_eq_true rfl⟩
theorem EncodedLength.xorAE : EncodedLength.Statement .xorAE := ⟨Nat.succ_pos _, Nat.le_of_ble_eq_true rfl⟩
theorem EncodedLength.xorAH : EncodedLength.Statement .xorAH := ⟨Nat.succ_pos _, Nat.le_of_ble_eq_true rfl⟩
theorem EncodedLength.xorAL : EncodedLength.Statement .xorAL := ⟨Nat.succ_pos _, Nat.le_of_ble_eq_true rfl⟩
theorem EncodedLength.xorAIndHl : EncodedLength.Statement .xorAIndHl := ⟨Nat.succ_pos _, Nat.le_of_ble_eq_true rfl⟩
theorem EncodedLength.xorAA : EncodedLength.Statement .xorAA := ⟨Nat.succ_pos _, Nat.le_of_ble_eq_true rfl⟩
theorem EncodedLength.orAB : EncodedLength.Statement .orAB := ⟨Nat.succ_pos _, Nat.le_of_ble_eq_true rfl⟩
theorem EncodedLength.orAC : EncodedLength.Statement .orAC := ⟨Nat.succ_pos _, Nat.le_of_ble_eq_true rfl⟩
theorem EncodedLength.orAD : EncodedLength.Statement .orAD := ⟨Nat.succ_pos _, Nat.le_of_ble_eq_true rfl⟩
theorem EncodedLength.orAE : EncodedLength.Statement .orAE := ⟨Nat.succ_pos _, Nat.le_of_ble_eq_true rfl⟩
theorem EncodedLength.orAH : EncodedLength.Statement .orAH := ⟨Nat.succ_pos _, Nat.le_of_ble_eq_true rfl⟩
theorem EncodedLength.orAL : EncodedLength.Statement .orAL := ⟨Nat.succ_pos _, Nat.le_of_ble_eq_true rfl⟩
theorem EncodedLength.orAIndHl : EncodedLength.Statement .orAIndHl := ⟨Nat.succ_pos _, Nat.le_of_ble_eq_true rfl⟩
theorem EncodedLength.orAA : EncodedLength.Statement .orAA := ⟨Nat.succ_pos _, Nat.le_of_ble_eq_true rfl⟩
theorem EncodedLength.cpAB : EncodedLength.Statement .cpAB := ⟨Nat.succ_pos _, Nat.le_of_ble_eq_true rfl⟩
theorem EncodedLength.cpAC : EncodedLength.Statement .cpAC := ⟨Nat.succ_pos _, Nat.le_of_ble_eq_true rfl⟩
theorem EncodedLength.cpAD : EncodedLength.Statement .cpAD := ⟨Nat.succ_pos _, Nat.le_of_ble_eq_true rfl⟩
theorem EncodedLength.cpAE : EncodedLength.Statement .cpAE := ⟨Nat.succ_pos _, Nat.le_of_ble_eq_true rfl⟩
theorem EncodedLength.cpAH : EncodedLength.Statement .cpAH := ⟨Nat.succ_pos _, Nat.le_of_ble_eq_true rfl⟩
theorem EncodedLength.cpAL : EncodedLength.Statement .cpAL := ⟨Nat.succ_pos _, Nat.le_of_ble_eq_true rfl⟩
theorem EncodedLength.cpAIndHl : EncodedLength.Statement .cpAIndHl := ⟨Nat.succ_pos _, Nat.le_of_ble_eq_true rfl⟩
theorem EncodedLength.cpAA : EncodedLength.Statement .cpAA := ⟨Nat.succ_pos _, Nat.le_of_ble_eq_true rfl⟩
theorem EncodedLength.addAD8 (d : Byte) : EncodedLength.Statement (.addAD8 d) := ⟨Nat.succ_pos _, Nat.le_of_ble_eq_true rfl⟩
theorem EncodedLength.adcAD8 (d : Byte) : EncodedLength.Statement (.adcAD8 d) := ⟨Nat.succ_pos _, Nat.le_of_ble_eq_true rfl⟩
theorem EncodedLength.subAD8 (d : Byte) : EncodedLength.Statement (.subAD8 d) := ⟨Nat.succ_pos _, Nat.le_of_ble_eq_true rfl⟩
theorem EncodedLength.sbcAD8 (d : Byte) : EncodedLength.Statement (.sbcAD8 d) := ⟨Nat.succ_pos _, Nat.le_of_ble_eq_true rfl⟩
theorem EncodedLength.andAD8 (d : Byte) : EncodedLength.Statement (.andAD8 d) := ⟨Nat.succ_pos _, Nat.le_of_ble_eq_true rfl⟩
theorem EncodedLength.xorAD8 (d : Byte) : EncodedLength.Statement (.xorAD8 d) := ⟨Nat.succ_pos _, Nat.le_of_ble_eq_true rfl⟩
theorem EncodedLength.orAD8 (d : Byte) : EncodedLength.Statement (.orAD8 d) := ⟨Nat.succ_pos _, Nat.le_of_ble_eq_true rfl⟩
theorem EncodedLength.cpAD8 (d : Byte) : EncodedLength.Statement (.cpAD8 d) := ⟨Nat.succ_pos _, Nat.le_of_ble_eq_true rfl⟩
theorem EncodedLength.incBc : EncodedLength.Statement .incBc := ⟨Nat.succ_pos _, Nat.le_of_ble_eq_true rfl⟩
theorem EncodedLength.addHlBc : EncodedLength.Statement .addHlBc := ⟨Nat.succ_pos _, Nat.le_of_ble_eq_true rfl⟩
theorem EncodedLength.decBc : EncodedLength.Statement .decBc := ⟨Nat.succ_pos _, Nat.le_of_ble_eq_true rfl⟩
theorem EncodedLength.incDe : EncodedLength.Statement .incDe := ⟨Nat.succ_pos _, Nat.le_of_ble_eq_true rfl⟩
theorem EncodedLength.addHlDe : EncodedLength.Statement .addHlDe := ⟨Nat.succ_pos _, Nat.le_of_ble_eq_true rfl⟩
theorem EncodedLength.decDe : EncodedLength.Statement .decDe := ⟨Nat.succ_pos _, Nat.le_of_ble_eq_true rfl⟩
theorem EncodedLength.incHl : EncodedLength.Statement .incHl := ⟨Nat.succ_pos _, Nat.le_of_ble_eq_true rfl⟩
theorem EncodedLength.addHlHl : EncodedLength.Statement .addHlHl := ⟨Nat.succ_pos _, Nat.le_of_ble_eq_true rfl⟩
theorem EncodedLength.decHl : EncodedLength.Statement .decHl := ⟨Nat.succ_pos _, Nat.le_of_ble_eq_true rfl⟩
theorem EncodedLength.incSp : EncodedLength.Statement .incSp := ⟨Nat.succ_pos _, Nat.le_of_ble_eq_true rfl⟩
theorem EncodedLength.addHlSp : EncodedLength.Statement .addHlSp := ⟨Nat.succ_pos _, Nat.le_of_ble_eq_true rfl⟩
theorem EncodedLength.decSp : EncodedLength.Statement .decSp := ⟨Nat.succ_pos _, Nat.le_of_ble_eq_true rfl⟩
theorem EncodedLength.addSpE8 (e : Byte) : EncodedLength.Statement (.addSpE8 e) := ⟨Nat.succ_pos _, Nat.le_of_ble_eq_true rfl⟩
theorem EncodedLength.jrE8 (e : Byte) : EncodedLength.Statement (.jrE8 e) := ⟨Nat.succ_pos _, Nat.le_of_ble_eq_true rfl⟩
theorem EncodedLength.jrNzE8 (e : Byte) : EncodedLength.Statement (.jrNzE8 e) := ⟨Nat.succ_pos _, Nat.le_of_ble_eq_true rfl⟩
theorem EncodedLength.jrZE8 (e : Byte) : EncodedLength.Statement (.jrZE8 e) := ⟨Nat.succ_pos _, Nat.le_of_ble_eq_true rfl⟩
theorem EncodedLength.jrNcE8 (e : Byte) : EncodedLength.Statement (.jrNcE8 e) := ⟨Nat.succ_pos _, Nat.le_of_ble_eq_true rfl⟩
theorem EncodedLength.jrCE8 (e : Byte) : EncodedLength.Statement (.jrCE8 e) := ⟨Nat.succ_pos _, Nat.le_of_ble_eq_true rfl⟩
theorem EncodedLength.retNz : EncodedLength.Statement .retNz := ⟨Nat.succ_pos _, Nat.le_of_ble_eq_true rfl⟩
theorem EncodedLength.jpNzA16 (a : Word) : EncodedLength.Statement (.jpNzA16 a) := ⟨Nat.succ_pos _, Nat.le_of_ble_eq_true rfl⟩
theorem EncodedLength.jpA16 (a : Word) : EncodedLength.Statement (.jpA16 a) := ⟨Nat.succ_pos _, Nat.le_of_ble_eq_true rfl⟩
theorem EncodedLength.callNzA16 (a : Word) : EncodedLength.Statement (.callNzA16 a) := ⟨Nat.succ_pos _, Nat.le_of_ble_eq_true rfl⟩
theorem EncodedLength.rst00 : EncodedLength.Statement .rst00 := ⟨Nat.succ_pos _, Nat.le_of_ble_eq_true rfl⟩
theorem EncodedLength.retZ : EncodedLength.Statement .retZ := ⟨Nat.succ_pos _, Nat.le_of_ble_eq_true rfl⟩
theorem EncodedLength.ret : EncodedLength.Statement .ret := ⟨Nat.succ_pos _, Nat.le_of_ble_eq_true rfl⟩
theorem EncodedLength.jpZA16 (a : Word) : EncodedLength.Statement (.jpZA16 a) := ⟨Nat.succ_pos _, Nat.le_of_ble_eq_true rfl⟩
theorem EncodedLength.callZA16 (a : Word) : EncodedLength.Statement (.callZA16 a) := ⟨Nat.succ_pos _, Nat.le_of_ble_eq_true rfl⟩
theorem EncodedLength.callA16 (a : Word) : EncodedLength.Statement (.callA16 a) := ⟨Nat.succ_pos _, Nat.le_of_ble_eq_true rfl⟩
theorem EncodedLength.rst08 : EncodedLength.Statement .rst08 := ⟨Nat.succ_pos _, Nat.le_of_ble_eq_true rfl⟩
theorem EncodedLength.retNc : EncodedLength.Statement .retNc := ⟨Nat.succ_pos _, Nat.le_of_ble_eq_true rfl⟩
theorem EncodedLength.jpNcA16 (a : Word) : EncodedLength.Statement (.jpNcA16 a) := ⟨Nat.succ_pos _, Nat.le_of_ble_eq_true rfl⟩
theorem EncodedLength.callNcA16 (a : Word) : EncodedLength.Statement (.callNcA16 a) := ⟨Nat.succ_pos _, Nat.le_of_ble_eq_true rfl⟩
theorem EncodedLength.rst10 : EncodedLength.Statement .rst10 := ⟨Nat.succ_pos _, Nat.le_of_ble_eq_true rfl⟩
theorem EncodedLength.retC : EncodedLength.Statement .retC := ⟨Nat.succ_pos _, Nat.le_of_ble_eq_true rfl⟩
theorem EncodedLength.reti : EncodedLength.Statement .reti := ⟨Nat.succ_pos _, Nat.le_of_ble_eq_true rfl⟩
theorem EncodedLength.jpCA16 (a : Word) : EncodedLength.Statement (.jpCA16 a) := ⟨Nat.succ_pos _, Nat.le_of_ble_eq_true rfl⟩
theorem EncodedLength.callCA16 (a : Word) : EncodedLength.Statement (.callCA16 a) := ⟨Nat.succ_pos _, Nat.le_of_ble_eq_true rfl⟩
theorem EncodedLength.rst18 : EncodedLength.Statement .rst18 := ⟨Nat.succ_pos _, Nat.le_of_ble_eq_true rfl⟩
theorem EncodedLength.rst20 : EncodedLength.Statement .rst20 := ⟨Nat.succ_pos _, Nat.le_of_ble_eq_true rfl⟩
theorem EncodedLength.jpHl : EncodedLength.Statement .jpHl := ⟨Nat.succ_pos _, Nat.le_of_ble_eq_true rfl⟩
theorem EncodedLength.rst28 : EncodedLength.Statement .rst28 := ⟨Nat.succ_pos _, Nat.le_of_ble_eq_true rfl⟩
theorem EncodedLength.rst30 : EncodedLength.Statement .rst30 := ⟨Nat.succ_pos _, Nat.le_of_ble_eq_true rfl⟩
theorem EncodedLength.rst38 : EncodedLength.Statement .rst38 := ⟨Nat.succ_pos _, Nat.le_of_ble_eq_true rfl⟩
theorem EncodedLength.nop : EncodedLength.Statement .nop := ⟨Nat.succ_pos _, Nat.le_of_ble_eq_true rfl⟩
theorem EncodedLength.stop : EncodedLength.Statement .stop := ⟨Nat.succ_pos _, Nat.le_of_ble_eq_true rfl⟩
theorem EncodedLength.halt : EncodedLength.Statement .halt := ⟨Nat.succ_pos _, Nat.le_of_ble_eq_true rfl⟩
theorem EncodedLength.illegalD3 : EncodedLength.Statement .illegalD3 := ⟨Nat.succ_pos _, Nat.le_of_ble_eq_true rfl⟩
theorem EncodedLength.illegalDB : EncodedLength.Statement .illegalDB := ⟨Nat.succ_pos _, Nat.le_of_ble_eq_true rfl⟩
theorem EncodedLength.illegalDD : EncodedLength.Statement .illegalDD := ⟨Nat.succ_pos _, Nat.le_of_ble_eq_true rfl⟩
theorem EncodedLength.illegalE3 : EncodedLength.Statement .illegalE3 := ⟨Nat.succ_pos _, Nat.le_of_ble_eq_true rfl⟩
theorem EncodedLength.illegalE4 : EncodedLength.Statement .illegalE4 := ⟨Nat.succ_pos _, Nat.le_of_ble_eq_true rfl⟩
theorem EncodedLength.illegalEB : EncodedLength.Statement .illegalEB := ⟨Nat.succ_pos _, Nat.le_of_ble_eq_true rfl⟩
theorem EncodedLength.illegalEC : EncodedLength.Statement .illegalEC := ⟨Nat.succ_pos _, Nat.le_of_ble_eq_true rfl⟩
theorem EncodedLength.illegalED : EncodedLength.Statement .illegalED := ⟨Nat.succ_pos _, Nat.le_of_ble_eq_true rfl⟩
theorem EncodedLength.di : EncodedLength.Statement .di := ⟨Nat.succ_pos _, Nat.le_of_ble_eq_true rfl⟩
theorem EncodedLength.illegalF4 : EncodedLength.Statement .illegalF4 := ⟨Nat.succ_pos _, Nat.le_of_ble_eq_true rfl⟩
theorem EncodedLength.ei : EncodedLength.Statement .ei := ⟨Nat.succ_pos _, Nat.le_of_ble_eq_true rfl⟩
theorem EncodedLength.illegalFC : EncodedLength.Statement .illegalFC := ⟨Nat.succ_pos _, Nat.le_of_ble_eq_true rfl⟩
theorem EncodedLength.illegalFD : EncodedLength.Statement .illegalFD := ⟨Nat.succ_pos _, Nat.le_of_ble_eq_true rfl⟩
theorem EncodedLength.prefixCb : EncodedLength.Statement .prefixCb := ⟨Nat.succ_pos _, Nat.le_of_ble_eq_true rfl⟩
theorem EncodedLength.rlcB : EncodedLength.Statement .rlcB := ⟨Nat.succ_pos _, Nat.le_of_ble_eq_true rfl⟩
theorem EncodedLength.rlcC : EncodedLength.Statement .rlcC := ⟨Nat.succ_pos _, Nat.le_of_ble_eq_true rfl⟩
theorem EncodedLength.rlcD : EncodedLength.Statement .rlcD := ⟨Nat.succ_pos _, Nat.le_of_ble_eq_true rfl⟩
theorem EncodedLength.rlcE : EncodedLength.Statement .rlcE := ⟨Nat.succ_pos _, Nat.le_of_ble_eq_true rfl⟩
theorem EncodedLength.rlcH : EncodedLength.Statement .rlcH := ⟨Nat.succ_pos _, Nat.le_of_ble_eq_true rfl⟩
theorem EncodedLength.rlcL : EncodedLength.Statement .rlcL := ⟨Nat.succ_pos _, Nat.le_of_ble_eq_true rfl⟩
theorem EncodedLength.rlcIndHl : EncodedLength.Statement .rlcIndHl := ⟨Nat.succ_pos _, Nat.le_of_ble_eq_true rfl⟩
theorem EncodedLength.rlcA : EncodedLength.Statement .rlcA := ⟨Nat.succ_pos _, Nat.le_of_ble_eq_true rfl⟩
theorem EncodedLength.rrcB : EncodedLength.Statement .rrcB := ⟨Nat.succ_pos _, Nat.le_of_ble_eq_true rfl⟩
theorem EncodedLength.rrcC : EncodedLength.Statement .rrcC := ⟨Nat.succ_pos _, Nat.le_of_ble_eq_true rfl⟩
theorem EncodedLength.rrcD : EncodedLength.Statement .rrcD := ⟨Nat.succ_pos _, Nat.le_of_ble_eq_true rfl⟩
theorem EncodedLength.rrcE : EncodedLength.Statement .rrcE := ⟨Nat.succ_pos _, Nat.le_of_ble_eq_true rfl⟩
theorem EncodedLength.rrcH : EncodedLength.Statement .rrcH := ⟨Nat.succ_pos _, Nat.le_of_ble_eq_true rfl⟩
theorem EncodedLength.rrcL : EncodedLength.Statement .rrcL := ⟨Nat.succ_pos _, Nat.le_of_ble_eq_true rfl⟩
theorem EncodedLength.rrcIndHl : EncodedLength.Statement .rrcIndHl := ⟨Nat.succ_pos _, Nat.le_of_ble_eq_true rfl⟩
theorem EncodedLength.rrcA : EncodedLength.Statement .rrcA := ⟨Nat.succ_pos _, Nat.le_of_ble_eq_true rfl⟩
theorem EncodedLength.rlB : EncodedLength.Statement .rlB := ⟨Nat.succ_pos _, Nat.le_of_ble_eq_true rfl⟩
theorem EncodedLength.rlC : EncodedLength.Statement .rlC := ⟨Nat.succ_pos _, Nat.le_of_ble_eq_true rfl⟩
theorem EncodedLength.rlD : EncodedLength.Statement .rlD := ⟨Nat.succ_pos _, Nat.le_of_ble_eq_true rfl⟩
theorem EncodedLength.rlE : EncodedLength.Statement .rlE := ⟨Nat.succ_pos _, Nat.le_of_ble_eq_true rfl⟩
theorem EncodedLength.rlH : EncodedLength.Statement .rlH := ⟨Nat.succ_pos _, Nat.le_of_ble_eq_true rfl⟩
theorem EncodedLength.rlL : EncodedLength.Statement .rlL := ⟨Nat.succ_pos _, Nat.le_of_ble_eq_true rfl⟩
theorem EncodedLength.rlIndHl : EncodedLength.Statement .rlIndHl := ⟨Nat.succ_pos _, Nat.le_of_ble_eq_true rfl⟩
theorem EncodedLength.rlA : EncodedLength.Statement .rlA := ⟨Nat.succ_pos _, Nat.le_of_ble_eq_true rfl⟩
theorem EncodedLength.rrB : EncodedLength.Statement .rrB := ⟨Nat.succ_pos _, Nat.le_of_ble_eq_true rfl⟩
theorem EncodedLength.rrC : EncodedLength.Statement .rrC := ⟨Nat.succ_pos _, Nat.le_of_ble_eq_true rfl⟩
theorem EncodedLength.rrD : EncodedLength.Statement .rrD := ⟨Nat.succ_pos _, Nat.le_of_ble_eq_true rfl⟩
theorem EncodedLength.rrE : EncodedLength.Statement .rrE := ⟨Nat.succ_pos _, Nat.le_of_ble_eq_true rfl⟩
theorem EncodedLength.rrH : EncodedLength.Statement .rrH := ⟨Nat.succ_pos _, Nat.le_of_ble_eq_true rfl⟩
theorem EncodedLength.rrL : EncodedLength.Statement .rrL := ⟨Nat.succ_pos _, Nat.le_of_ble_eq_true rfl⟩
theorem EncodedLength.rrIndHl : EncodedLength.Statement .rrIndHl := ⟨Nat.succ_pos _, Nat.le_of_ble_eq_true rfl⟩
theorem EncodedLength.rrA : EncodedLength.Statement .rrA := ⟨Nat.succ_pos _, Nat.le_of_ble_eq_true rfl⟩
theorem EncodedLength.slaB : EncodedLength.Statement .slaB := ⟨Nat.succ_pos _, Nat.le_of_ble_eq_true rfl⟩
theorem EncodedLength.slaC : EncodedLength.Statement .slaC := ⟨Nat.succ_pos _, Nat.le_of_ble_eq_true rfl⟩
theorem EncodedLength.slaD : EncodedLength.Statement .slaD := ⟨Nat.succ_pos _, Nat.le_of_ble_eq_true rfl⟩
theorem EncodedLength.slaE : EncodedLength.Statement .slaE := ⟨Nat.succ_pos _, Nat.le_of_ble_eq_true rfl⟩
theorem EncodedLength.slaH : EncodedLength.Statement .slaH := ⟨Nat.succ_pos _, Nat.le_of_ble_eq_true rfl⟩
theorem EncodedLength.slaL : EncodedLength.Statement .slaL := ⟨Nat.succ_pos _, Nat.le_of_ble_eq_true rfl⟩
theorem EncodedLength.slaIndHl : EncodedLength.Statement .slaIndHl := ⟨Nat.succ_pos _, Nat.le_of_ble_eq_true rfl⟩
theorem EncodedLength.slaA : EncodedLength.Statement .slaA := ⟨Nat.succ_pos _, Nat.le_of_ble_eq_true rfl⟩
theorem EncodedLength.sraB : EncodedLength.Statement .sraB := ⟨Nat.succ_pos _, Nat.le_of_ble_eq_true rfl⟩
theorem EncodedLength.sraC : EncodedLength.Statement .sraC := ⟨Nat.succ_pos _, Nat.le_of_ble_eq_true rfl⟩
theorem EncodedLength.sraD : EncodedLength.Statement .sraD := ⟨Nat.succ_pos _, Nat.le_of_ble_eq_true rfl⟩
theorem EncodedLength.sraE : EncodedLength.Statement .sraE := ⟨Nat.succ_pos _, Nat.le_of_ble_eq_true rfl⟩
theorem EncodedLength.sraH : EncodedLength.Statement .sraH := ⟨Nat.succ_pos _, Nat.le_of_ble_eq_true rfl⟩
theorem EncodedLength.sraL : EncodedLength.Statement .sraL := ⟨Nat.succ_pos _, Nat.le_of_ble_eq_true rfl⟩
theorem EncodedLength.sraIndHl : EncodedLength.Statement .sraIndHl := ⟨Nat.succ_pos _, Nat.le_of_ble_eq_true rfl⟩
theorem EncodedLength.sraA : EncodedLength.Statement .sraA := ⟨Nat.succ_pos _, Nat.le_of_ble_eq_true rfl⟩
theorem EncodedLength.swapB : EncodedLength.Statement .swapB := ⟨Nat.succ_pos _, Nat.le_of_ble_eq_true rfl⟩
theorem EncodedLength.swapC : EncodedLength.Statement .swapC := ⟨Nat.succ_pos _, Nat.le_of_ble_eq_true rfl⟩
theorem EncodedLength.swapD : EncodedLength.Statement .swapD := ⟨Nat.succ_pos _, Nat.le_of_ble_eq_true rfl⟩
theorem EncodedLength.swapE : EncodedLength.Statement .swapE := ⟨Nat.succ_pos _, Nat.le_of_ble_eq_true rfl⟩
theorem EncodedLength.swapH : EncodedLength.Statement .swapH := ⟨Nat.succ_pos _, Nat.le_of_ble_eq_true rfl⟩
theorem EncodedLength.swapL : EncodedLength.Statement .swapL := ⟨Nat.succ_pos _, Nat.le_of_ble_eq_true rfl⟩
theorem EncodedLength.swapIndHl : EncodedLength.Statement .swapIndHl := ⟨Nat.succ_pos _, Nat.le_of_ble_eq_true rfl⟩
theorem EncodedLength.swapA : EncodedLength.Statement .swapA := ⟨Nat.succ_pos _, Nat.le_of_ble_eq_true rfl⟩
theorem EncodedLength.srlB : EncodedLength.Statement .srlB := ⟨Nat.succ_pos _, Nat.le_of_ble_eq_true rfl⟩
theorem EncodedLength.srlC : EncodedLength.Statement .srlC := ⟨Nat.succ_pos _, Nat.le_of_ble_eq_true rfl⟩
theorem EncodedLength.srlD : EncodedLength.Statement .srlD := ⟨Nat.succ_pos _, Nat.le_of_ble_eq_true rfl⟩
theorem EncodedLength.srlE : EncodedLength.Statement .srlE := ⟨Nat.succ_pos _, Nat.le_of_ble_eq_true rfl⟩
theorem EncodedLength.srlH : EncodedLength.Statement .srlH := ⟨Nat.succ_pos _, Nat.le_of_ble_eq_true rfl⟩
theorem EncodedLength.srlL : EncodedLength.Statement .srlL := ⟨Nat.succ_pos _, Nat.le_of_ble_eq_true rfl⟩
theorem EncodedLength.srlIndHl : EncodedLength.Statement .srlIndHl := ⟨Nat.succ_pos _, Nat.le_of_ble_eq_true rfl⟩
theorem EncodedLength.srlA : EncodedLength.Statement .srlA := ⟨Nat.succ_pos _, Nat.le_of_ble_eq_true rfl⟩
theorem EncodedLength.bit0B : EncodedLength.Statement .bit0B := ⟨Nat.succ_pos _, Nat.le_of_ble_eq_true rfl⟩
theorem EncodedLength.bit0C : EncodedLength.Statement .bit0C := ⟨Nat.succ_pos _, Nat.le_of_ble_eq_true rfl⟩
theorem EncodedLength.bit0D : EncodedLength.Statement .bit0D := ⟨Nat.succ_pos _, Nat.le_of_ble_eq_true rfl⟩
theorem EncodedLength.bit0E : EncodedLength.Statement .bit0E := ⟨Nat.succ_pos _, Nat.le_of_ble_eq_true rfl⟩
theorem EncodedLength.bit0H : EncodedLength.Statement .bit0H := ⟨Nat.succ_pos _, Nat.le_of_ble_eq_true rfl⟩
theorem EncodedLength.bit0L : EncodedLength.Statement .bit0L := ⟨Nat.succ_pos _, Nat.le_of_ble_eq_true rfl⟩
theorem EncodedLength.bit0IndHl : EncodedLength.Statement .bit0IndHl := ⟨Nat.succ_pos _, Nat.le_of_ble_eq_true rfl⟩
theorem EncodedLength.bit0A : EncodedLength.Statement .bit0A := ⟨Nat.succ_pos _, Nat.le_of_ble_eq_true rfl⟩
theorem EncodedLength.bit1B : EncodedLength.Statement .bit1B := ⟨Nat.succ_pos _, Nat.le_of_ble_eq_true rfl⟩
theorem EncodedLength.bit1C : EncodedLength.Statement .bit1C := ⟨Nat.succ_pos _, Nat.le_of_ble_eq_true rfl⟩
theorem EncodedLength.bit1D : EncodedLength.Statement .bit1D := ⟨Nat.succ_pos _, Nat.le_of_ble_eq_true rfl⟩
theorem EncodedLength.bit1E : EncodedLength.Statement .bit1E := ⟨Nat.succ_pos _, Nat.le_of_ble_eq_true rfl⟩
theorem EncodedLength.bit1H : EncodedLength.Statement .bit1H := ⟨Nat.succ_pos _, Nat.le_of_ble_eq_true rfl⟩
theorem EncodedLength.bit1L : EncodedLength.Statement .bit1L := ⟨Nat.succ_pos _, Nat.le_of_ble_eq_true rfl⟩
theorem EncodedLength.bit1IndHl : EncodedLength.Statement .bit1IndHl := ⟨Nat.succ_pos _, Nat.le_of_ble_eq_true rfl⟩
theorem EncodedLength.bit1A : EncodedLength.Statement .bit1A := ⟨Nat.succ_pos _, Nat.le_of_ble_eq_true rfl⟩
theorem EncodedLength.bit2B : EncodedLength.Statement .bit2B := ⟨Nat.succ_pos _, Nat.le_of_ble_eq_true rfl⟩
theorem EncodedLength.bit2C : EncodedLength.Statement .bit2C := ⟨Nat.succ_pos _, Nat.le_of_ble_eq_true rfl⟩
theorem EncodedLength.bit2D : EncodedLength.Statement .bit2D := ⟨Nat.succ_pos _, Nat.le_of_ble_eq_true rfl⟩
theorem EncodedLength.bit2E : EncodedLength.Statement .bit2E := ⟨Nat.succ_pos _, Nat.le_of_ble_eq_true rfl⟩
theorem EncodedLength.bit2H : EncodedLength.Statement .bit2H := ⟨Nat.succ_pos _, Nat.le_of_ble_eq_true rfl⟩
theorem EncodedLength.bit2L : EncodedLength.Statement .bit2L := ⟨Nat.succ_pos _, Nat.le_of_ble_eq_true rfl⟩
theorem EncodedLength.bit2IndHl : EncodedLength.Statement .bit2IndHl := ⟨Nat.succ_pos _, Nat.le_of_ble_eq_true rfl⟩
theorem EncodedLength.bit2A : EncodedLength.Statement .bit2A := ⟨Nat.succ_pos _, Nat.le_of_ble_eq_true rfl⟩
theorem EncodedLength.bit3B : EncodedLength.Statement .bit3B := ⟨Nat.succ_pos _, Nat.le_of_ble_eq_true rfl⟩
theorem EncodedLength.bit3C : EncodedLength.Statement .bit3C := ⟨Nat.succ_pos _, Nat.le_of_ble_eq_true rfl⟩
theorem EncodedLength.bit3D : EncodedLength.Statement .bit3D := ⟨Nat.succ_pos _, Nat.le_of_ble_eq_true rfl⟩
theorem EncodedLength.bit3E : EncodedLength.Statement .bit3E := ⟨Nat.succ_pos _, Nat.le_of_ble_eq_true rfl⟩
theorem EncodedLength.bit3H : EncodedLength.Statement .bit3H := ⟨Nat.succ_pos _, Nat.le_of_ble_eq_true rfl⟩
theorem EncodedLength.bit3L : EncodedLength.Statement .bit3L := ⟨Nat.succ_pos _, Nat.le_of_ble_eq_true rfl⟩
theorem EncodedLength.bit3IndHl : EncodedLength.Statement .bit3IndHl := ⟨Nat.succ_pos _, Nat.le_of_ble_eq_true rfl⟩
theorem EncodedLength.bit3A : EncodedLength.Statement .bit3A := ⟨Nat.succ_pos _, Nat.le_of_ble_eq_true rfl⟩
theorem EncodedLength.bit4B : EncodedLength.Statement .bit4B := ⟨Nat.succ_pos _, Nat.le_of_ble_eq_true rfl⟩
theorem EncodedLength.bit4C : EncodedLength.Statement .bit4C := ⟨Nat.succ_pos _, Nat.le_of_ble_eq_true rfl⟩
theorem EncodedLength.bit4D : EncodedLength.Statement .bit4D := ⟨Nat.succ_pos _, Nat.le_of_ble_eq_true rfl⟩
theorem EncodedLength.bit4E : EncodedLength.Statement .bit4E := ⟨Nat.succ_pos _, Nat.le_of_ble_eq_true rfl⟩
theorem EncodedLength.bit4H : EncodedLength.Statement .bit4H := ⟨Nat.succ_pos _, Nat.le_of_ble_eq_true rfl⟩
theorem EncodedLength.bit4L : EncodedLength.Statement .bit4L := ⟨Nat.succ_pos _, Nat.le_of_ble_eq_true rfl⟩
theorem EncodedLength.bit4IndHl : EncodedLength.Statement .bit4IndHl := ⟨Nat.succ_pos _, Nat.le_of_ble_eq_true rfl⟩
theorem EncodedLength.bit4A : EncodedLength.Statement .bit4A := ⟨Nat.succ_pos _, Nat.le_of_ble_eq_true rfl⟩
theorem EncodedLength.bit5B : EncodedLength.Statement .bit5B := ⟨Nat.succ_pos _, Nat.le_of_ble_eq_true rfl⟩
theorem EncodedLength.bit5C : EncodedLength.Statement .bit5C := ⟨Nat.succ_pos _, Nat.le_of_ble_eq_true rfl⟩
theorem EncodedLength.bit5D : EncodedLength.Statement .bit5D := ⟨Nat.succ_pos _, Nat.le_of_ble_eq_true rfl⟩
theorem EncodedLength.bit5E : EncodedLength.Statement .bit5E := ⟨Nat.succ_pos _, Nat.le_of_ble_eq_true rfl⟩
theorem EncodedLength.bit5H : EncodedLength.Statement .bit5H := ⟨Nat.succ_pos _, Nat.le_of_ble_eq_true rfl⟩
theorem EncodedLength.bit5L : EncodedLength.Statement .bit5L := ⟨Nat.succ_pos _, Nat.le_of_ble_eq_true rfl⟩
theorem EncodedLength.bit5IndHl : EncodedLength.Statement .bit5IndHl := ⟨Nat.succ_pos _, Nat.le_of_ble_eq_true rfl⟩
theorem EncodedLength.bit5A : EncodedLength.Statement .bit5A := ⟨Nat.succ_pos _, Nat.le_of_ble_eq_true rfl⟩
theorem EncodedLength.bit6B : EncodedLength.Statement .bit6B := ⟨Nat.succ_pos _, Nat.le_of_ble_eq_true rfl⟩
theorem EncodedLength.bit6C : EncodedLength.Statement .bit6C := ⟨Nat.succ_pos _, Nat.le_of_ble_eq_true rfl⟩
theorem EncodedLength.bit6D : EncodedLength.Statement .bit6D := ⟨Nat.succ_pos _, Nat.le_of_ble_eq_true rfl⟩
theorem EncodedLength.bit6E : EncodedLength.Statement .bit6E := ⟨Nat.succ_pos _, Nat.le_of_ble_eq_true rfl⟩
theorem EncodedLength.bit6H : EncodedLength.Statement .bit6H := ⟨Nat.succ_pos _, Nat.le_of_ble_eq_true rfl⟩
theorem EncodedLength.bit6L : EncodedLength.Statement .bit6L := ⟨Nat.succ_pos _, Nat.le_of_ble_eq_true rfl⟩
theorem EncodedLength.bit6IndHl : EncodedLength.Statement .bit6IndHl := ⟨Nat.succ_pos _, Nat.le_of_ble_eq_true rfl⟩
theorem EncodedLength.bit6A : EncodedLength.Statement .bit6A := ⟨Nat.succ_pos _, Nat.le_of_ble_eq_true rfl⟩
theorem EncodedLength.bit7B : EncodedLength.Statement .bit7B := ⟨Nat.succ_pos _, Nat.le_of_ble_eq_true rfl⟩
theorem EncodedLength.bit7C : EncodedLength.Statement .bit7C := ⟨Nat.succ_pos _, Nat.le_of_ble_eq_true rfl⟩
theorem EncodedLength.bit7D : EncodedLength.Statement .bit7D := ⟨Nat.succ_pos _, Nat.le_of_ble_eq_true rfl⟩
theorem EncodedLength.bit7E : EncodedLength.Statement .bit7E := ⟨Nat.succ_pos _, Nat.le_of_ble_eq_true rfl⟩
theorem EncodedLength.bit7H : EncodedLength.Statement .bit7H := ⟨Nat.succ_pos _, Nat.le_of_ble_eq_true rfl⟩
theorem EncodedLength.bit7L : EncodedLength.Statement .bit7L := ⟨Nat.succ_pos _, Nat.le_of_ble_eq_true rfl⟩
theorem EncodedLength.bit7IndHl : EncodedLength.Statement .bit7IndHl := ⟨Nat.succ_pos _, Nat.le_of_ble_eq_true rfl⟩
theorem EncodedLength.bit7A : EncodedLength.Statement .bit7A := ⟨Nat.succ_pos _, Nat.le_of_ble_eq_true rfl⟩
theorem EncodedLength.res0B : EncodedLength.Statement .res0B := ⟨Nat.succ_pos _, Nat.le_of_ble_eq_true rfl⟩
theorem EncodedLength.res0C : EncodedLength.Statement .res0C := ⟨Nat.succ_pos _, Nat.le_of_ble_eq_true rfl⟩
theorem EncodedLength.res0D : EncodedLength.Statement .res0D := ⟨Nat.succ_pos _, Nat.le_of_ble_eq_true rfl⟩
theorem EncodedLength.res0E : EncodedLength.Statement .res0E := ⟨Nat.succ_pos _, Nat.le_of_ble_eq_true rfl⟩
theorem EncodedLength.res0H : EncodedLength.Statement .res0H := ⟨Nat.succ_pos _, Nat.le_of_ble_eq_true rfl⟩
theorem EncodedLength.res0L : EncodedLength.Statement .res0L := ⟨Nat.succ_pos _, Nat.le_of_ble_eq_true rfl⟩
theorem EncodedLength.res0IndHl : EncodedLength.Statement .res0IndHl := ⟨Nat.succ_pos _, Nat.le_of_ble_eq_true rfl⟩
theorem EncodedLength.res0A : EncodedLength.Statement .res0A := ⟨Nat.succ_pos _, Nat.le_of_ble_eq_true rfl⟩
theorem EncodedLength.res1B : EncodedLength.Statement .res1B := ⟨Nat.succ_pos _, Nat.le_of_ble_eq_true rfl⟩
theorem EncodedLength.res1C : EncodedLength.Statement .res1C := ⟨Nat.succ_pos _, Nat.le_of_ble_eq_true rfl⟩
theorem EncodedLength.res1D : EncodedLength.Statement .res1D := ⟨Nat.succ_pos _, Nat.le_of_ble_eq_true rfl⟩
theorem EncodedLength.res1E : EncodedLength.Statement .res1E := ⟨Nat.succ_pos _, Nat.le_of_ble_eq_true rfl⟩
theorem EncodedLength.res1H : EncodedLength.Statement .res1H := ⟨Nat.succ_pos _, Nat.le_of_ble_eq_true rfl⟩
theorem EncodedLength.res1L : EncodedLength.Statement .res1L := ⟨Nat.succ_pos _, Nat.le_of_ble_eq_true rfl⟩
theorem EncodedLength.res1IndHl : EncodedLength.Statement .res1IndHl := ⟨Nat.succ_pos _, Nat.le_of_ble_eq_true rfl⟩
theorem EncodedLength.res1A : EncodedLength.Statement .res1A := ⟨Nat.succ_pos _, Nat.le_of_ble_eq_true rfl⟩
theorem EncodedLength.res2B : EncodedLength.Statement .res2B := ⟨Nat.succ_pos _, Nat.le_of_ble_eq_true rfl⟩
theorem EncodedLength.res2C : EncodedLength.Statement .res2C := ⟨Nat.succ_pos _, Nat.le_of_ble_eq_true rfl⟩
theorem EncodedLength.res2D : EncodedLength.Statement .res2D := ⟨Nat.succ_pos _, Nat.le_of_ble_eq_true rfl⟩
theorem EncodedLength.res2E : EncodedLength.Statement .res2E := ⟨Nat.succ_pos _, Nat.le_of_ble_eq_true rfl⟩
theorem EncodedLength.res2H : EncodedLength.Statement .res2H := ⟨Nat.succ_pos _, Nat.le_of_ble_eq_true rfl⟩
theorem EncodedLength.res2L : EncodedLength.Statement .res2L := ⟨Nat.succ_pos _, Nat.le_of_ble_eq_true rfl⟩
theorem EncodedLength.res2IndHl : EncodedLength.Statement .res2IndHl := ⟨Nat.succ_pos _, Nat.le_of_ble_eq_true rfl⟩
theorem EncodedLength.res2A : EncodedLength.Statement .res2A := ⟨Nat.succ_pos _, Nat.le_of_ble_eq_true rfl⟩
theorem EncodedLength.res3B : EncodedLength.Statement .res3B := ⟨Nat.succ_pos _, Nat.le_of_ble_eq_true rfl⟩
theorem EncodedLength.res3C : EncodedLength.Statement .res3C := ⟨Nat.succ_pos _, Nat.le_of_ble_eq_true rfl⟩
theorem EncodedLength.res3D : EncodedLength.Statement .res3D := ⟨Nat.succ_pos _, Nat.le_of_ble_eq_true rfl⟩
theorem EncodedLength.res3E : EncodedLength.Statement .res3E := ⟨Nat.succ_pos _, Nat.le_of_ble_eq_true rfl⟩
theorem EncodedLength.res3H : EncodedLength.Statement .res3H := ⟨Nat.succ_pos _, Nat.le_of_ble_eq_true rfl⟩
theorem EncodedLength.res3L : EncodedLength.Statement .res3L := ⟨Nat.succ_pos _, Nat.le_of_ble_eq_true rfl⟩
theorem EncodedLength.res3IndHl : EncodedLength.Statement .res3IndHl := ⟨Nat.succ_pos _, Nat.le_of_ble_eq_true rfl⟩
theorem EncodedLength.res3A : EncodedLength.Statement .res3A := ⟨Nat.succ_pos _, Nat.le_of_ble_eq_true rfl⟩
theorem EncodedLength.res4B : EncodedLength.Statement .res4B := ⟨Nat.succ_pos _, Nat.le_of_ble_eq_true rfl⟩
theorem EncodedLength.res4C : EncodedLength.Statement .res4C := ⟨Nat.succ_pos _, Nat.le_of_ble_eq_true rfl⟩
theorem EncodedLength.res4D : EncodedLength.Statement .res4D := ⟨Nat.succ_pos _, Nat.le_of_ble_eq_true rfl⟩
theorem EncodedLength.res4E : EncodedLength.Statement .res4E := ⟨Nat.succ_pos _, Nat.le_of_ble_eq_true rfl⟩
theorem EncodedLength.res4H : EncodedLength.Statement .res4H := ⟨Nat.succ_pos _, Nat.le_of_ble_eq_true rfl⟩
theorem EncodedLength.res4L : EncodedLength.Statement .res4L := ⟨Nat.succ_pos _, Nat.le_of_ble_eq_true rfl⟩
theorem EncodedLength.res4IndHl : EncodedLength.Statement .res4IndHl := ⟨Nat.succ_pos _, Nat.le_of_ble_eq_true rfl⟩
theorem EncodedLength.res4A : EncodedLength.Statement .res4A := ⟨Nat.succ_pos _, Nat.le_of_ble_eq_true rfl⟩
theorem EncodedLength.res5B : EncodedLength.Statement .res5B := ⟨Nat.succ_pos _, Nat.le_of_ble_eq_true rfl⟩
theorem EncodedLength.res5C : EncodedLength.Statement .res5C := ⟨Nat.succ_pos _, Nat.le_of_ble_eq_true rfl⟩
theorem EncodedLength.res5D : EncodedLength.Statement .res5D := ⟨Nat.succ_pos _, Nat.le_of_ble_eq_true rfl⟩
theorem EncodedLength.res5E : EncodedLength.Statement .res5E := ⟨Nat.succ_pos _, Nat.le_of_ble_eq_true rfl⟩
theorem EncodedLength.res5H : EncodedLength.Statement .res5H := ⟨Nat.succ_pos _, Nat.le_of_ble_eq_true rfl⟩
theorem EncodedLength.res5L : EncodedLength.Statement .res5L := ⟨Nat.succ_pos _, Nat.le_of_ble_eq_true rfl⟩
theorem EncodedLength.res5IndHl : EncodedLength.Statement .res5IndHl := ⟨Nat.succ_pos _, Nat.le_of_ble_eq_true rfl⟩
theorem EncodedLength.res5A : EncodedLength.Statement .res5A := ⟨Nat.succ_pos _, Nat.le_of_ble_eq_true rfl⟩
theorem EncodedLength.res6B : EncodedLength.Statement .res6B := ⟨Nat.succ_pos _, Nat.le_of_ble_eq_true rfl⟩
theorem EncodedLength.res6C : EncodedLength.Statement .res6C := ⟨Nat.succ_pos _, Nat.le_of_ble_eq_true rfl⟩
theorem EncodedLength.res6D : EncodedLength.Statement .res6D := ⟨Nat.succ_pos _, Nat.le_of_ble_eq_true rfl⟩
theorem EncodedLength.res6E : EncodedLength.Statement .res6E := ⟨Nat.succ_pos _, Nat.le_of_ble_eq_true rfl⟩
theorem EncodedLength.res6H : EncodedLength.Statement .res6H := ⟨Nat.succ_pos _, Nat.le_of_ble_eq_true rfl⟩
theorem EncodedLength.res6L : EncodedLength.Statement .res6L := ⟨Nat.succ_pos _, Nat.le_of_ble_eq_true rfl⟩
theorem EncodedLength.res6IndHl : EncodedLength.Statement .res6IndHl := ⟨Nat.succ_pos _, Nat.le_of_ble_eq_true rfl⟩
theorem EncodedLength.res6A : EncodedLength.Statement .res6A := ⟨Nat.succ_pos _, Nat.le_of_ble_eq_true rfl⟩
theorem EncodedLength.res7B : EncodedLength.Statement .res7B := ⟨Nat.succ_pos _, Nat.le_of_ble_eq_true rfl⟩
theorem EncodedLength.res7C : EncodedLength.Statement .res7C := ⟨Nat.succ_pos _, Nat.le_of_ble_eq_true rfl⟩
theorem EncodedLength.res7D : EncodedLength.Statement .res7D := ⟨Nat.succ_pos _, Nat.le_of_ble_eq_true rfl⟩
theorem EncodedLength.res7E : EncodedLength.Statement .res7E := ⟨Nat.succ_pos _, Nat.le_of_ble_eq_true rfl⟩
theorem EncodedLength.res7H : EncodedLength.Statement .res7H := ⟨Nat.succ_pos _, Nat.le_of_ble_eq_true rfl⟩
theorem EncodedLength.res7L : EncodedLength.Statement .res7L := ⟨Nat.succ_pos _, Nat.le_of_ble_eq_true rfl⟩
theorem EncodedLength.res7IndHl : EncodedLength.Statement .res7IndHl := ⟨Nat.succ_pos _, Nat.le_of_ble_eq_true rfl⟩
theorem EncodedLength.res7A : EncodedLength.Statement .res7A := ⟨Nat.succ_pos _, Nat.le_of_ble_eq_true rfl⟩
theorem EncodedLength.set0B : EncodedLength.Statement .set0B := ⟨Nat.succ_pos _, Nat.le_of_ble_eq_true rfl⟩
theorem EncodedLength.set0C : EncodedLength.Statement .set0C := ⟨Nat.succ_pos _, Nat.le_of_ble_eq_true rfl⟩
theorem EncodedLength.set0D : EncodedLength.Statement .set0D := ⟨Nat.succ_pos _, Nat.le_of_ble_eq_true rfl⟩
theorem EncodedLength.set0E : EncodedLength.Statement .set0E := ⟨Nat.succ_pos _, Nat.le_of_ble_eq_true rfl⟩
theorem EncodedLength.set0H : EncodedLength.Statement .set0H := ⟨Nat.succ_pos _, Nat.le_of_ble_eq_true rfl⟩
theorem EncodedLength.set0L : EncodedLength.Statement .set0L := ⟨Nat.succ_pos _, Nat.le_of_ble_eq_true rfl⟩
theorem EncodedLength.set0IndHl : EncodedLength.Statement .set0IndHl := ⟨Nat.succ_pos _, Nat.le_of_ble_eq_true rfl⟩
theorem EncodedLength.set0A : EncodedLength.Statement .set0A := ⟨Nat.succ_pos _, Nat.le_of_ble_eq_true rfl⟩
theorem EncodedLength.set1B : EncodedLength.Statement .set1B := ⟨Nat.succ_pos _, Nat.le_of_ble_eq_true rfl⟩
theorem EncodedLength.set1C : EncodedLength.Statement .set1C := ⟨Nat.succ_pos _, Nat.le_of_ble_eq_true rfl⟩
theorem EncodedLength.set1D : EncodedLength.Statement .set1D := ⟨Nat.succ_pos _, Nat.le_of_ble_eq_true rfl⟩
theorem EncodedLength.set1E : EncodedLength.Statement .set1E := ⟨Nat.succ_pos _, Nat.le_of_ble_eq_true rfl⟩
theorem EncodedLength.set1H : EncodedLength.Statement .set1H := ⟨Nat.succ_pos _, Nat.le_of_ble_eq_true rfl⟩
theorem EncodedLength.set1L : EncodedLength.Statement .set1L := ⟨Nat.succ_pos _, Nat.le_of_ble_eq_true rfl⟩
theorem EncodedLength.set1IndHl : EncodedLength.Statement .set1IndHl := ⟨Nat.succ_pos _, Nat.le_of_ble_eq_true rfl⟩
theorem EncodedLength.set1A : EncodedLength.Statement .set1A := ⟨Nat.succ_pos _, Nat.le_of_ble_eq_true rfl⟩
theorem EncodedLength.set2B : EncodedLength.Statement .set2B := ⟨Nat.succ_pos _, Nat.le_of_ble_eq_true rfl⟩
theorem EncodedLength.set2C : EncodedLength.Statement .set2C := ⟨Nat.succ_pos _, Nat.le_of_ble_eq_true rfl⟩
theorem EncodedLength.set2D : EncodedLength.Statement .set2D := ⟨Nat.succ_pos _, Nat.le_of_ble_eq_true rfl⟩
theorem EncodedLength.set2E : EncodedLength.Statement .set2E := ⟨Nat.succ_pos _, Nat.le_of_ble_eq_true rfl⟩
theorem EncodedLength.set2H : EncodedLength.Statement .set2H := ⟨Nat.succ_pos _, Nat.le_of_ble_eq_true rfl⟩
theorem EncodedLength.set2L : EncodedLength.Statement .set2L := ⟨Nat.succ_pos _, Nat.le_of_ble_eq_true rfl⟩
theorem EncodedLength.set2IndHl : EncodedLength.Statement .set2IndHl := ⟨Nat.succ_pos _, Nat.le_of_ble_eq_true rfl⟩
theorem EncodedLength.set2A : EncodedLength.Statement .set2A := ⟨Nat.succ_pos _, Nat.le_of_ble_eq_true rfl⟩
theorem EncodedLength.set3B : EncodedLength.Statement .set3B := ⟨Nat.succ_pos _, Nat.le_of_ble_eq_true rfl⟩
theorem EncodedLength.set3C : EncodedLength.Statement .set3C := ⟨Nat.succ_pos _, Nat.le_of_ble_eq_true rfl⟩
theorem EncodedLength.set3D : EncodedLength.Statement .set3D := ⟨Nat.succ_pos _, Nat.le_of_ble_eq_true rfl⟩
theorem EncodedLength.set3E : EncodedLength.Statement .set3E := ⟨Nat.succ_pos _, Nat.le_of_ble_eq_true rfl⟩
theorem EncodedLength.set3H : EncodedLength.Statement .set3H := ⟨Nat.succ_pos _, Nat.le_of_ble_eq_true rfl⟩
theorem EncodedLength.set3L : EncodedLength.Statement .set3L := ⟨Nat.succ_pos _, Nat.le_of_ble_eq_true rfl⟩
theorem EncodedLength.set3IndHl : EncodedLength.Statement .set3IndHl := ⟨Nat.succ_pos _, Nat.le_of_ble_eq_true rfl⟩
theorem EncodedLength.set3A : EncodedLength.Statement .set3A := ⟨Nat.succ_pos _, Nat.le_of_ble_eq_true rfl⟩
theorem EncodedLength.set4B : EncodedLength.Statement .set4B := ⟨Nat.succ_pos _, Nat.le_of_ble_eq_true rfl⟩
theorem EncodedLength.set4C : EncodedLength.Statement .set4C := ⟨Nat.succ_pos _, Nat.le_of_ble_eq_true rfl⟩
theorem EncodedLength.set4D : EncodedLength.Statement .set4D := ⟨Nat.succ_pos _, Nat.le_of_ble_eq_true rfl⟩
theorem EncodedLength.set4E : EncodedLength.Statement .set4E := ⟨Nat.succ_pos _, Nat.le_of_ble_eq_true rfl⟩
theorem EncodedLength.set4H : EncodedLength.Statement .set4H := ⟨Nat.succ_pos _, Nat.le_of_ble_eq_true rfl⟩
theorem EncodedLength.set4L : EncodedLength.Statement .set4L := ⟨Nat.succ_pos _, Nat.le_of_ble_eq_true rfl⟩
theorem EncodedLength.set4IndHl : EncodedLength.Statement .set4IndHl := ⟨Nat.succ_pos _, Nat.le_of_ble_eq_true rfl⟩
theorem EncodedLength.set4A : EncodedLength.Statement .set4A := ⟨Nat.succ_pos _, Nat.le_of_ble_eq_true rfl⟩
theorem EncodedLength.set5B : EncodedLength.Statement .set5B := ⟨Nat.succ_pos _, Nat.le_of_ble_eq_true rfl⟩
theorem EncodedLength.set5C : EncodedLength.Statement .set5C := ⟨Nat.succ_pos _, Nat.le_of_ble_eq_true rfl⟩
theorem EncodedLength.set5D : EncodedLength.Statement .set5D := ⟨Nat.succ_pos _, Nat.le_of_ble_eq_true rfl⟩
theorem EncodedLength.set5E : EncodedLength.Statement .set5E := ⟨Nat.succ_pos _, Nat.le_of_ble_eq_true rfl⟩
theorem EncodedLength.set5H : EncodedLength.Statement .set5H := ⟨Nat.succ_pos _, Nat.le_of_ble_eq_true rfl⟩
theorem EncodedLength.set5L : EncodedLength.Statement .set5L := ⟨Nat.succ_pos _, Nat.le_of_ble_eq_true rfl⟩
theorem EncodedLength.set5IndHl : EncodedLength.Statement .set5IndHl := ⟨Nat.succ_pos _, Nat.le_of_ble_eq_true rfl⟩
theorem EncodedLength.set5A : EncodedLength.Statement .set5A := ⟨Nat.succ_pos _, Nat.le_of_ble_eq_true rfl⟩
theorem EncodedLength.set6B : EncodedLength.Statement .set6B := ⟨Nat.succ_pos _, Nat.le_of_ble_eq_true rfl⟩
theorem EncodedLength.set6C : EncodedLength.Statement .set6C := ⟨Nat.succ_pos _, Nat.le_of_ble_eq_true rfl⟩
theorem EncodedLength.set6D : EncodedLength.Statement .set6D := ⟨Nat.succ_pos _, Nat.le_of_ble_eq_true rfl⟩
theorem EncodedLength.set6E : EncodedLength.Statement .set6E := ⟨Nat.succ_pos _, Nat.le_of_ble_eq_true rfl⟩
theorem EncodedLength.set6H : EncodedLength.Statement .set6H := ⟨Nat.succ_pos _, Nat.le_of_ble_eq_true rfl⟩
theorem EncodedLength.set6L : EncodedLength.Statement .set6L := ⟨Nat.succ_pos _, Nat.le_of_ble_eq_true rfl⟩
theorem EncodedLength.set6IndHl : EncodedLength.Statement .set6IndHl := ⟨Nat.succ_pos _, Nat.le_of_ble_eq_true rfl⟩
theorem EncodedLength.set6A : EncodedLength.Statement .set6A := ⟨Nat.succ_pos _, Nat.le_of_ble_eq_true rfl⟩
theorem EncodedLength.set7B : EncodedLength.Statement .set7B := ⟨Nat.succ_pos _, Nat.le_of_ble_eq_true rfl⟩
theorem EncodedLength.set7C : EncodedLength.Statement .set7C := ⟨Nat.succ_pos _, Nat.le_of_ble_eq_true rfl⟩
theorem EncodedLength.set7D : EncodedLength.Statement .set7D := ⟨Nat.succ_pos _, Nat.le_of_ble_eq_true rfl⟩
theorem EncodedLength.set7E : EncodedLength.Statement .set7E := ⟨Nat.succ_pos _, Nat.le_of_ble_eq_true rfl⟩
theorem EncodedLength.set7H : EncodedLength.Statement .set7H := ⟨Nat.succ_pos _, Nat.le_of_ble_eq_true rfl⟩
theorem EncodedLength.set7L : EncodedLength.Statement .set7L := ⟨Nat.succ_pos _, Nat.le_of_ble_eq_true rfl⟩
theorem EncodedLength.set7IndHl : EncodedLength.Statement .set7IndHl := ⟨Nat.succ_pos _, Nat.le_of_ble_eq_true rfl⟩
theorem EncodedLength.set7A : EncodedLength.Statement .set7A := ⟨Nat.succ_pos _, Nat.le_of_ble_eq_true rfl⟩

end Sys2Proof.Laws
end

