-- ==== Sys2Proof/Laws/Step.lean ====
section
/-!
SUPPORT. The step loop, said once: what the fetch returns and leaves, what the interrupt check does, and the outcome of a step.
-/

namespace Sys2Proof.Machine

/-- The bytes of an instruction whose opcode was read, from the two bytes after it. -/
def instrBytes (op x y : Byte) : List Byte :=
  match operandCount op with
  | 0 => [op]
  | 1 => [op, x]
  | _ => [op, x, y]

/-- The state after fetching `n` operand bytes. -/
theorem fetchOperands_state (n : Nat) (s : State) :
    (fetchOperands n s).2 = (s.ticks n).setPc (s.regs.pc + BitVec.ofNat 16 n) := by
  induction n generalizing s with
  | zero => simp [fetchOperands, State.setPc]
  | succ n ih =>
    have e : (s.regs.pc + 1) + BitVec.ofNat 16 n = s.regs.pc + BitVec.ofNat 16 (n + 1) := by
      rw [BitVec.add_assoc, BitVec.add_comm 1]
      congr 1
      apply BitVec.eq_of_toNat_eq
      simp [BitVec.toNat_add]
    have h : (fetchOperands (n + 1) s).2 = (fetchOperands n (fetch8 s).2).2 := rfl
    rw [h, ih]
    have h2 : (fetch8 s).2 = { s.tick with regs := { s.regs with pc := s.regs.pc + 1 } } := rfl
    rw [h2, ticks_withRegs]
    show State.setPc _ (s.regs.pc + 1 + BitVec.ofNat 16 n) = _
    rw [e]
    show _ = (State.ticks n s.tick).setPc _
    unfold State.setPc
    rw [ticks_regs]
    rfl

theorem operandCount_le (op : Byte) : operandCount op ≤ 2 := by
  unfold operandCount
  cases primaryRow op <;> simp

/-- The bytes the operand fetches return. -/
theorem fetchOperands_bytes (op : Byte) (s : State) :
    op :: (fetchOperands (operandCount op) s).1 = instrBytes op (routeRead s.regs.pc s) (routeRead (s.regs.pc + 1) s.tick) := by
  have h := operandCount_le op
  unfold instrBytes
  generalize operandCount op = n at h ⊢
  match n, h with
  | 0, _ => rfl
  | 1, _ => rfl
  | 2, _ => exact congrArg (fun y => [op, routeRead s.regs.pc s, y]) (routeRead_withRegs (s.regs.pc + 1) s.tick _)

/-- Decoding three bytes is decoding the instruction's own bytes, with the others left over. -/
theorem decode_three (op x y : Byte) (i : Instr) (rest : List Byte) (h : decode [op, x, y] = .ok (i, rest)) :
    decode (instrBytes op x y) = .ok (i, []) ∧ (instrBytes op x y) ++ rest = [op, x, y] := by
  unfold instrBytes operandCount
  unfold decode at h ⊢
  dsimp only at h
  cases hrow : primaryRow op <;> rw [hrow] at h <;>
    simp only [Except.ok.injEq, Prod.mk.injEq] at h <;> obtain ⟨rfl, rfl⟩ := h <;> simp [hrow]

/-- The fetch after the opcode (R151). -/
theorem fetchBytes_eq (s : State) : fetchBytes s =
    (instrBytes (fetchOp s).1 (routeRead (fetchOp s).2.regs.pc (fetchOp s).2)
      (routeRead ((fetchOp s).2.regs.pc + 1) (fetchOp s).2.tick),
     ((fetchOp s).2.ticks (operandCount (fetchOp s).1)).setPc
      ((fetchOp s).2.regs.pc + BitVec.ofNat 16 (operandCount (fetchOp s).1))) := by
  rw [← fetchOperands_bytes, ← fetchOperands_state]
  rfl

theorem routeRead_withOpPc (a b : Word) (s : State) : routeRead a { s with opPc := b } = routeRead a s :=
  routeRead_congr a rfl rfl rfl rfl rfl rfl rfl rfl rfl

/-- The opcode fetch when PC advances over it (R150). -/
theorem fetchOp_running (s : State) (h : s.halt ≠ .bug) :
    fetchOp s = (routeRead s.regs.pc s, (State.tick { s with opPc := s.regs.pc }).setPc (s.regs.pc + 1)) := by
  refine Eq.trans (if_neg h) ?_
  rw [← routeRead_withOpPc s.regs.pc s.regs.pc s]
  rfl

/-- The opcode fetch of the halt bug (R150, R512). -/
theorem fetchOp_bug (s : State) (h : s.halt = .bug) :
    fetchOp s = (routeRead s.regs.pc s, { State.tick { s with opPc := s.regs.pc } with halt := .off }) := by
  refine Eq.trans (if_pos h) ?_
  rw [← routeRead_withOpPc s.regs.pc s.regs.pc s]
  rfl

theorem pc_add_one (w : Word) (n : Nat) : (w + 1) + BitVec.ofNat 16 n = w + BitVec.ofNat 16 (n + 1) := by
  rw [BitVec.add_assoc, BitVec.add_comm 1]
  congr 1
  apply BitVec.eq_of_toNat_eq
  simp [BitVec.toNat_add]

/-- The fetch when PC advances over the opcode (R150-R152). -/
theorem fetchBytes_running (s : State) (h : s.halt ≠ .bug) : fetchBytes s =
    (instrBytes (routeRead s.regs.pc s) (routeRead (s.regs.pc + 1) s.tick) (routeRead (s.regs.pc + 2) s.tick.tick),
     (State.ticks (operandCount (routeRead s.regs.pc s) + 1) { s with opPc := s.regs.pc }).setPc
      (s.regs.pc + BitVec.ofNat 16 (operandCount (routeRead s.regs.pc s) + 1))) := by
  have e2 : (s.regs.pc + 1 + 1 : Word) = s.regs.pc + 2 := by rw [BitVec.add_assoc]; rfl
  rw [fetchBytes_eq, fetchOp_running s h]
  dsimp only
  refine Prod.ext ?_ ?_
  · show instrBytes _ (routeRead (s.regs.pc + 1) _) (routeRead (s.regs.pc + 1 + 1) _) = _
    rw [e2]
    exact congrArg₂ (instrBytes _) (routeRead_congr _ rfl rfl rfl rfl rfl rfl rfl rfl rfl)
      (routeRead_congr _ rfl rfl rfl rfl rfl rfl rfl rfl rfl)
  · generalize operandCount (routeRead s.regs.pc s) = n
    show State.setPc _ (s.regs.pc + 1 + BitVec.ofNat 16 n) = _
    rw [pc_add_one]
    have e : (State.tick { s with opPc := s.regs.pc }).setPc (s.regs.pc + 1) =
      { State.tick { s with opPc := s.regs.pc } with regs := { s.regs with pc := s.regs.pc + 1 } } := rfl
    rw [e, ticks_withRegs]
    unfold State.setPc
    dsimp only
    rw [ticks_regs]
    rfl

theorem ticks_withHalt (n : Nat) (s : State) (h : Halt) : State.ticks n { s with halt := h } = { s.ticks n with halt := h } := by
  induction n generalizing s with
  | zero => rfl
  | succ n ih => exact ih s.tick

/-- The fetch of the halt bug (R150, R512): PC ends one byte short. -/
theorem fetchBytes_bug (s : State) (h : s.halt = .bug) : fetchBytes s =
    (instrBytes (routeRead s.regs.pc s) (routeRead s.regs.pc s.tick) (routeRead (s.regs.pc + 1) s.tick.tick),
     { (State.ticks (operandCount (routeRead s.regs.pc s) + 1) { s with opPc := s.regs.pc }).setPc
        (s.regs.pc + BitVec.ofNat 16 (operandCount (routeRead s.regs.pc s))) with halt := .off }) := by
  rw [fetchBytes_eq, fetchOp_bug s h]
  dsimp only
  refine Prod.ext ?_ ?_
  · show instrBytes _ (routeRead s.regs.pc _) (routeRead (s.regs.pc + 1) _) = _
    exact congrArg₂ (instrBytes _) (routeRead_congr _ rfl rfl rfl rfl rfl rfl rfl rfl rfl)
      (routeRead_congr _ rfl rfl rfl rfl rfl rfl rfl rfl rfl)
  · generalize operandCount (routeRead s.regs.pc s) = n
    show State.setPc (State.ticks n { State.tick { s with opPc := s.regs.pc } with halt := .off }) _ = _
    rw [ticks_withHalt]
    rfl

/-- The fetch evolves once the opcode's address is noted and the Bug state left (R150-R152). -/
theorem fetch_evolves (s : State) :
    Evolves { s with opPc := s.regs.pc, halt := if s.halt = .bug then .off else s.halt } (fetchBytes s).2 := by
  by_cases h : s.halt = .bug
  · rw [fetchBytes_bug s h, if_pos h]
    dsimp only
    generalize operandCount (routeRead s.regs.pc s) = n
    have e : ({ (State.ticks (n + 1) { s with opPc := s.regs.pc }).setPc (s.regs.pc + BitVec.ofNat 16 n) with
        halt := .off } : State) =
        (State.ticks (n + 1) { s with opPc := s.regs.pc, halt := .off }).setPc (s.regs.pc + BitVec.ofNat 16 n) := by
      rw [ticks_withHalt (n + 1) { s with opPc := s.regs.pc } .off]
      rfl
    rw [e]
    exact (Evolves.refl.ticks _).setPc _
  · rw [fetchBytes_running s h, if_neg h]
    exact (Evolves.refl.ticks _).setPc _

/-! ### The interrupt check -/

/-- The source taken is the lowest set bit of the requests (R423). -/
theorem lowestRequest_spec : ∀ r : BitVec 5, r ≠ 0 → lowestRequest r < 5 ∧ r.getLsbD (lowestRequest r) = true ∧
    ∀ j, j < lowestRequest r → r.getLsbD j = false := by decide

theorem requests_bit (s : State) (k : Nat) (hk : k < 5) : s.requests.getLsbD k = (s.ie.getLsbD k && s.dev.ifr.getLsbD k) := by
  unfold State.requests
  rw [BitVec.getLsbD_and, BitVec.getLsbD_extractLsb']
  simp [hk]

theorem isLowestRequest_iff (s : State) (k : Nat) : isLowestRequest k s ↔ s.requests ≠ 0 ∧ k = lowestRequest s.requests := by
  constructor
  · rintro ⟨hk, h1, h2, h3⟩
    have hb : s.requests.getLsbD k = true := by rw [requests_bit s k hk, h1, h2]; rfl
    have hne : s.requests ≠ 0 := by intro e; rw [e] at hb; simp at hb
    obtain ⟨l1, l2, l3⟩ := lowestRequest_spec _ hne
    refine ⟨hne, ?_⟩
    rcases Nat.lt_trichotomy k (lowestRequest s.requests) with h | h | h
    · rw [l3 k h] at hb
      exact absurd hb (by decide)
    · exact h
    · rw [requests_bit s _ l1] at l2
      exact absurd (by simpa using l2) (h3 _ h)
  · rintro ⟨hne, rfl⟩
    obtain ⟨l1, l2, l3⟩ := lowestRequest_spec _ hne
    rw [requests_bit s _ l1, Bool.and_eq_true] at l2
    refine ⟨l1, l2.1, l2.2, fun j hj => ?_⟩
    have := l3 j hj
    rw [requests_bit s j (by omega)] at this
    simpa using this

/-- A dispatch evolves once the request is cleared and the control fields are written (R425). -/
theorem dispatch_evolves (s : State) : Evolves
    { s with
      dev := { s.dev with ifr := s.dev.ifr &&& ~~~(1#5 <<< lowestRequest s.requests) }
      ime := false, imeState := .stable, halt := .off } (dispatch s) :=
  ((Evolves.refl.push16 _).ticks 3).setPc _

/-- A dispatch leaves every halt state, whatever it was. -/
theorem dispatch_withHalt (s : State) (h : Halt) : dispatch { s with halt := h } = dispatch s := rfl

/-- The interrupt check with nothing pending (R402). -/
theorem checkInterrupts_idle (s : State) (h : s.pending = false) : checkInterrupts s = s := by
  unfold checkInterrupts
  rw [h]
  rfl

/-- The interrupt check with the master enable on and a request pending (R402, R424). -/
theorem checkInterrupts_taken (s : State) (h : s.pending = true) (hi : s.ime = true) : checkInterrupts s = dispatch s := by
  unfold checkInterrupts
  rw [if_pos h]
  dsimp only
  split
  · exact dispatch_withHalt s .off
  · rfl

/-- The interrupt check with a request pending and the master enable off (R402, R424): it only wakes. -/
theorem checkInterrupts_wakes (s : State) (h : s.pending = true) (hi : s.ime = false) :
    checkInterrupts s = { s with halt := if s.halt = .on then .off else s.halt } := by
  have hn : ¬ s.ime = true := by rw [hi]; decide
  unfold checkInterrupts
  rw [if_pos h]
  dsimp only
  split
  · rfl
  · rfl

/-- The interrupt check never touches a fault. -/
theorem checkInterrupts_fault (s : State) : (checkInterrupts s).fault = s.fault := by
  cases h : s.pending with
  | false => rw [checkInterrupts_idle s h]
  | true =>
    cases hi : s.ime with
    | false => rw [checkInterrupts_wakes s h hi]
    | true => rw [checkInterrupts_taken s h hi]; exact (dispatch_evolves s).keepsControl.2.1

/-- With no interrupt to take, the check leaves a machine that is not halted alone (R402). -/
theorem checkInterrupts_running (s : State) (hh : s.halt ≠ .on) (hp : (s.ime && s.pending) = false) :
    checkInterrupts s = s := by
  cases h : s.pending with
  | false => exact checkInterrupts_idle s h
  | true =>
    rw [h, Bool.and_true] at hp
    rw [checkInterrupts_wakes s h hp, if_neg hh]

/-- The state step (b) sees, when nothing is pending (R402). -/
theorem beginStep_idle (s : State) (h : s.pending = false) : beginStep s = { s with stepCycles := 0 } :=
  checkInterrupts_idle { s with stepCycles := 0 } h

/-- The state step (b) sees, when a request is pending and the master enable is off (R402, R424). -/
theorem beginStep_wakes (s : State) (h : s.pending = true) (hi : s.ime = false) :
    beginStep s = { s with stepCycles := 0, halt := if s.halt = .on then .off else s.halt } :=
  checkInterrupts_wakes { s with stepCycles := 0 } h hi

/-- The state step (b) sees, when an interrupt is taken (R402, R425). -/
theorem beginStep_taken (s : State) (h : s.pending = true) (hi : s.ime = true) :
    beginStep s = dispatch { s with stepCycles := 0 } :=
  checkInterrupts_taken { s with stepCycles := 0 } h hi

/-- The state step (b) sees, when the machine is not halted and no interrupt is taken. -/
theorem beginStep_running (s : State) (hh : s.halt ≠ .on) (hp : (s.ime && s.pending) = false) :
    beginStep s = { s with stepCycles := 0 } :=
  checkInterrupts_running { s with stepCycles := 0 } hh hp

/-- A dispatch in a form whose parts the bus lemmas speak of (R425). -/
theorem dispatch_eq (s : State) : dispatch { s with stepCycles := 0 } = dispatched (lowestRequest s.requests) s := by
  unfold dispatch
  dsimp only
  rw [push16_eq]
  rfl

/-! ### The step -/

theorem beginStep_fault (s : State) : (beginStep s).fault = s.fault := checkInterrupts_fault _

theorem step_faulted (s : State) (r : Fault) (h : s.fault = some r) : step s = .fault r := by
  unfold step stepLoop
  rw [h]

theorem step_running (s : State) (h : s.fault = none) (hh : (beginStep s).halt ≠ .on) :
    step s = fetchExecute (beginStep s) := by
  unfold step stepLoop
  rw [h]
  dsimp only
  rw [if_neg hh]

theorem step_halted (s : State) (h : s.fault = none) (hh : (beginStep s).halt = .on) : step s = .next (beginStep s).tick := by
  unfold step stepLoop
  rw [h]
  dsimp only
  rw [if_pos hh]

/-- Every instruction answers a next state. -/
theorem exec_next (i : Instr) (s : State) : ∃ t, exec i s = .next t := by
  rcases evolves_or_system i with h | h
  · rcases h with rfl | rfl | rfl | rfl | rfl | h
    · exact ⟨_, rfl⟩
    · exact ⟨_, rfl⟩
    · exact ⟨_, rfl⟩
    · exact ⟨_, rfl⟩
    · exact ⟨_, rfl⟩
    · simp only [Instr.undefinedRows, List.map_cons, List.map_nil, List.mem_cons, List.not_mem_nil, or_false] at h
      rcases h with rfl | rfl | rfl | rfl | rfl | rfl | rfl | rfl | rfl | rfl | rfl <;> exact ⟨_, rfl⟩
  · obtain ⟨t, he, _⟩ := h s
    exact ⟨t, he⟩

/-- Everything an instruction can do. -/
inductive Effect (i : Instr) (s : State) : State → Prop where
  | evolves {t : State} (h : Evolves s t) : Effect i s t
  | di (h : i = .di) : Effect i s { s with ime := false, imeState := .stable }
  | ei (h : i = .ei) (hi : s.ime = false) (hs : s.imeState = .stable) : Effect i s { s with imeState := .enableRequested }
  | reti {t : State} (hi : i = .reti) (h : Evolves s t) : Effect i s { t with ime := true, imeState := .stable }
  | halt (h : i = .halt) : Effect i s { s with halt := if !s.ime && s.pending then .bug else .on }
  | fault (h : i = .stop ∨ i ∈ Instr.undefinedRows.map Prod.snd) (r : Fault) : Effect i s { s with fault := some r }

theorem exec_effect {i : Instr} {s t : State} (he : exec i s = .next t) : Effect i s t := by
  rcases evolves_or_system i with h | h
  · rcases h with rfl | rfl | rfl | rfl | rfl | h
    · cases he
      exact .di rfl
    · cases he
      unfold enableInterrupts
      split
      · rename_i h
        simp only [Bool.and_eq_true, Bool.not_eq_true', beq_iff_eq] at h
        exact .ei rfl h.1 h.2
      · exact .evolves .refl
    · cases he
      exact .reti (t := (pop16 s).2.tick.setPc (pop16 s).1) rfl (Evolves.refl.pop16.tick.setPc _)
    · cases he
      exact .halt rfl
    · cases he
      unfold stop
      split
      · exact .fault (.inl rfl) _
      · exact .evolves (Evolves.refl.tick.setPc _)
    · have h' := h
      simp only [Instr.undefinedRows, List.map_cons, List.map_nil, List.mem_cons, List.not_mem_nil, or_false] at h
      rcases h with rfl | rfl | rfl | rfl | rfl | rfl | rfl | rfl | rfl | rfl | rfl <;> cases he <;> exact .fault (.inr h') _
  · obtain ⟨u, hu, hv⟩ := h s
    rw [hu] at he
    cases he
    exact .evolves hv

/-- What `fetchExecute` answers: the meaning of the decoded row, then the latency advance unless it faulted. -/
theorem fetchExecute_eq (s : State) : ∃ i t, decode (fetchBytes s).1 = .ok (i, []) ∧ exec i (fetchBytes s).2 = .next t ∧
    fetchExecute s = .next (if t.fault = none then advanceIme t else t) := by
  obtain ⟨i, hi⟩ := decode_fetchBytes s
  obtain ⟨t, ht⟩ := exec_next i (fetchBytes s).2
  refine ⟨i, t, hi, ht, ?_⟩
  unfold fetchExecute
  dsimp only
  rw [hi]
  dsimp only
  rw [ht]
  rfl

end Sys2Proof.Machine
end

