-- ==== Sys2Proof/Laws/Run.lean ====
section
/-!
SUPPORT. The loop of `Run(N)`: when it ends, one turn of it, what a step costs at least, and that any fuel of at least the budget
gives the same run.
-/

namespace Sys2Proof.Machine

/-- The loop ends with the budget spent, or a fault recorded (R480). -/
theorem runSteps_ended (fuel : Nat) (s : State) (h : ¬ (0 < s.budget ∧ s.fault = none)) : runSteps fuel s = s := by
  cases fuel with
  | zero => rfl
  | succ n => rw [runSteps, if_neg h]

/-- One turn of the loop of R480. -/
theorem runSteps_next (fuel : Nat) (s t : State) (hb : 0 < s.budget) (h : step s = .next t) :
    runSteps (fuel + 1) s = runSteps fuel { t with budget := t.budget - t.stepCycles } := by
  have hf : s.fault = none := by
    cases hs : s.fault with
    | none => rfl
    | some r => rw [step_faulted s r hs] at h; cases h
  rw [runSteps, if_pos ⟨hb, hf⟩, h]

/-- Register updates, ticks and bus writes take no cycle back (R36). -/
theorem Evolves.stepCycles_le {s t : State} (h : Evolves s t) : s.stepCycles ≤ t.stepCycles := by
  induction h with
  | refl => exact Nat.le_refl _
  | regs r _ _ ih => exact ih
  | tick _ ih => exact Nat.le_succ_of_le ih
  | write a v _ ih => rw [routeWrite_stepCycles]; exact ih

/-- An instruction takes no cycle back. -/
theorem exec_stepCycles_le {i : Instr} {s t : State} (h : exec i s = .next t) : s.stepCycles ≤ t.stepCycles := by
  cases exec_effect h with
  | evolves he => exact he.stepCycles_le
  | reti _ hr => exact hr.stepCycles_le
  | di | ei | halt | fault => exact Nat.le_refl _

/-- A step costs at least one cycle: the opcode fetch, or the halted step's (R401). -/
theorem step_cost_pos {s t : State} (h : step s = .next t) : 1 ≤ t.stepCycles := by
  have hf : s.fault = none := by
    cases hs : s.fault with
    | none => rfl
    | some r => rw [step_faulted s r hs] at h; cases h
  by_cases hh : (beginStep s).halt = .on
  · rw [step_halted s hf hh] at h
    cases h
    rw [tick_stepCycles]
    omega
  · obtain ⟨i, u, _, he, e⟩ := fetchExecute_eq (beginStep s)
    rw [step_running s hf hh, e] at h
    have hc : 1 ≤ (fetchBytes (beginStep s)).2.stepCycles := by
      generalize beginStep s = b
      by_cases hb : b.halt = .bug
      · rw [fetchBytes_bug b hb]
        show 1 ≤ (State.ticks _ _).stepCycles
        rw [ticks_stepCycles]
        omega
      · rw [fetchBytes_running b hb, setPc_stepCycles, ticks_stepCycles]
        omega
    have hu := exec_stepCycles_le he
    cases h
    split
    · show 1 ≤ (advanceIme u).stepCycles
      have : (advanceIme u).stepCycles = u.stepCycles := by unfold advanceIme; split <;> rfl
      omega
    · omega

/-- Any fuel of at least the budget runs the loop of R480 to its own end, given that a step leaves the budget to `Run`. -/
theorem runSteps_fuel (hk : ∀ u v : State, step u = .next v → v.budget = u.budget) (m n : Nat) (s : State)
    (hm : s.budget ≤ m) (hn : s.budget ≤ n) : runSteps m s = runSteps n s := by
  induction m generalizing n s with
  | zero => rw [runSteps_ended n s (by omega)]; rfl
  | succ m ih =>
    by_cases hc : 0 < s.budget ∧ s.fault = none
    · obtain ⟨n, rfl⟩ : ∃ k, n = k + 1 := ⟨n - 1, by omega⟩
      cases hs : step s with
      | next t =>
        have := step_cost_pos hs
        have hb := hk s t hs
        rw [runSteps_next m s t hc.1 hs, runSteps_next n s t hc.1 hs]
        exact ih n _ (by dsimp only; omega) (by dsimp only; omega)
      | fault r => rw [runSteps, runSteps, if_pos hc, if_pos hc, hs]
      | refused r => rw [runSteps, runSteps, if_pos hc, if_pos hc, hs]
    · rw [runSteps_ended _ s hc, runSteps_ended _ s hc]

end Sys2Proof.Machine
end

