-- ==== Sys2Proof/Tests/Slice0.lean ====
section
/-!
SUPPORT. Tests of one step or one operation each. Decoding: every row of the maps R162 and R165 by a word written out from
spec/opcode_table.json, with an operand whose bytes differ. Expected results are those of 95_test_vectors.md, or are computed by hand
from the rule named. Last, for every statement of Certificates/Slice0/Obligations.lean with hypotheses, a concrete state and operands
that meet them, clause by clause at the boundaries.
-/

namespace Sys2Proof.Machine

/-! ### Decoding -/

/-- The bytes are exactly one instruction, `i`. -/
def reads (bytes : List Byte) (i : Instr) : Bool := decide (decode bytes = .ok (i, []))

theorem test_decode_primary_0x :
    (reads [0x00] .nop && reads [0x01, 0x34, 0xC1] (.ldBcD16 0xC134) && reads [0x02] .ldIndBcA && reads [0x03] .incBc &&
    reads [0x04] .incB && reads [0x05] .decB && reads [0x06, 0x60] (.ldBD8 0x60) && reads [0x07] .rlca &&
    reads [0x08, 0x34, 0xC1] (.ldIndA16Sp 0xC134) && reads [0x09] .addHlBc && reads [0x0A] .ldAIndBc && reads [0x0B] .decBc &&
    reads [0x0C] .incC && reads [0x0D] .decC && reads [0x0E, 0x60] (.ldCD8 0x60) && reads [0x0F] .rrca) = true := by decide

theorem test_decode_primary_1x :
    (reads [0x10] .stop && reads [0x11, 0x34, 0xC1] (.ldDeD16 0xC134) && reads [0x12] .ldIndDeA && reads [0x13] .incDe &&
    reads [0x14] .incD && reads [0x15] .decD && reads [0x16, 0x60] (.ldDD8 0x60) && reads [0x17] .rla &&
    reads [0x18, 0x5A] (.jrE8 0x5A) && reads [0x19] .addHlDe && reads [0x1A] .ldAIndDe && reads [0x1B] .decDe &&
    reads [0x1C] .incE && reads [0x1D] .decE && reads [0x1E, 0x60] (.ldED8 0x60) && reads [0x1F] .rra) = true := by decide

theorem test_decode_primary_2x :
    (reads [0x20, 0x5A] (.jrNzE8 0x5A) && reads [0x21, 0x34, 0xC1] (.ldHlD16 0xC134) && reads [0x22] .ldIndHlIncA &&
    reads [0x23] .incHl && reads [0x24] .incH && reads [0x25] .decH && reads [0x26, 0x60] (.ldHD8 0x60) && reads [0x27] .daa &&
    reads [0x28, 0x5A] (.jrZE8 0x5A) && reads [0x29] .addHlHl && reads [0x2A] .ldAIndHlInc && reads [0x2B] .decHl &&
    reads [0x2C] .incL && reads [0x2D] .decL && reads [0x2E, 0x60] (.ldLD8 0x60) && reads [0x2F] .cpl) = true := by decide

theorem test_decode_primary_3x :
    (reads [0x30, 0x5A] (.jrNcE8 0x5A) && reads [0x31, 0x34, 0xC1] (.ldSpD16 0xC134) && reads [0x32] .ldIndHlDecA &&
    reads [0x33] .incSp && reads [0x34] .incIndHl && reads [0x35] .decIndHl && reads [0x36, 0x60] (.ldIndHlD8 0x60) &&
    reads [0x37] .scf && reads [0x38, 0x5A] (.jrCE8 0x5A) && reads [0x39] .addHlSp && reads [0x3A] .ldAIndHlDec &&
    reads [0x3B] .decSp && reads [0x3C] .incA && reads [0x3D] .decA && reads [0x3E, 0x60] (.ldAD8 0x60) &&
    reads [0x3F] .ccf) = true := by decide

theorem test_decode_primary_4x :
    (reads [0x40] .ldBB && reads [0x41] .ldBC && reads [0x42] .ldBD && reads [0x43] .ldBE && reads [0x44] .ldBH &&
    reads [0x45] .ldBL && reads [0x46] .ldBIndHl && reads [0x47] .ldBA && reads [0x48] .ldCB && reads [0x49] .ldCC &&
    reads [0x4A] .ldCD && reads [0x4B] .ldCE && reads [0x4C] .ldCH && reads [0x4D] .ldCL && reads [0x4E] .ldCIndHl &&
    reads [0x4F] .ldCA) = true := by decide

theorem test_decode_primary_5x :
    (reads [0x50] .ldDB && reads [0x51] .ldDC && reads [0x52] .ldDD && reads [0x53] .ldDE && reads [0x54] .ldDH &&
    reads [0x55] .ldDL && reads [0x56] .ldDIndHl && reads [0x57] .ldDA && reads [0x58] .ldEB && reads [0x59] .ldEC &&
    reads [0x5A] .ldED && reads [0x5B] .ldEE && reads [0x5C] .ldEH && reads [0x5D] .ldEL && reads [0x5E] .ldEIndHl &&
    reads [0x5F] .ldEA) = true := by decide

theorem test_decode_primary_6x :
    (reads [0x60] .ldHB && reads [0x61] .ldHC && reads [0x62] .ldHD && reads [0x63] .ldHE && reads [0x64] .ldHH &&
    reads [0x65] .ldHL && reads [0x66] .ldHIndHl && reads [0x67] .ldHA && reads [0x68] .ldLB && reads [0x69] .ldLC &&
    reads [0x6A] .ldLD && reads [0x6B] .ldLE && reads [0x6C] .ldLH && reads [0x6D] .ldLL && reads [0x6E] .ldLIndHl &&
    reads [0x6F] .ldLA) = true := by decide

theorem test_decode_primary_7x :
    (reads [0x70] .ldIndHlB && reads [0x71] .ldIndHlC && reads [0x72] .ldIndHlD && reads [0x73] .ldIndHlE &&
    reads [0x74] .ldIndHlH && reads [0x75] .ldIndHlL && reads [0x76] .halt && reads [0x77] .ldIndHlA && reads [0x78] .ldAB &&
    reads [0x79] .ldAC && reads [0x7A] .ldAD && reads [0x7B] .ldAE && reads [0x7C] .ldAH && reads [0x7D] .ldAL &&
    reads [0x7E] .ldAIndHl && reads [0x7F] .ldAA) = true := by decide

theorem test_decode_primary_8x :
    (reads [0x80] .addAB && reads [0x81] .addAC && reads [0x82] .addAD && reads [0x83] .addAE && reads [0x84] .addAH &&
    reads [0x85] .addAL && reads [0x86] .addAIndHl && reads [0x87] .addAA && reads [0x88] .adcAB && reads [0x89] .adcAC &&
    reads [0x8A] .adcAD && reads [0x8B] .adcAE && reads [0x8C] .adcAH && reads [0x8D] .adcAL && reads [0x8E] .adcAIndHl &&
    reads [0x8F] .adcAA) = true := by decide

theorem test_decode_primary_9x :
    (reads [0x90] .subAB && reads [0x91] .subAC && reads [0x92] .subAD && reads [0x93] .subAE && reads [0x94] .subAH &&
    reads [0x95] .subAL && reads [0x96] .subAIndHl && reads [0x97] .subAA && reads [0x98] .sbcAB && reads [0x99] .sbcAC &&
    reads [0x9A] .sbcAD && reads [0x9B] .sbcAE && reads [0x9C] .sbcAH && reads [0x9D] .sbcAL && reads [0x9E] .sbcAIndHl &&
    reads [0x9F] .sbcAA) = true := by decide

theorem test_decode_primary_Ax :
    (reads [0xA0] .andAB && reads [0xA1] .andAC && reads [0xA2] .andAD && reads [0xA3] .andAE && reads [0xA4] .andAH &&
    reads [0xA5] .andAL && reads [0xA6] .andAIndHl && reads [0xA7] .andAA && reads [0xA8] .xorAB && reads [0xA9] .xorAC &&
    reads [0xAA] .xorAD && reads [0xAB] .xorAE && reads [0xAC] .xorAH && reads [0xAD] .xorAL && reads [0xAE] .xorAIndHl &&
    reads [0xAF] .xorAA) = true := by decide

theorem test_decode_primary_Bx :
    (reads [0xB0] .orAB && reads [0xB1] .orAC && reads [0xB2] .orAD && reads [0xB3] .orAE && reads [0xB4] .orAH &&
    reads [0xB5] .orAL && reads [0xB6] .orAIndHl && reads [0xB7] .orAA && reads [0xB8] .cpAB && reads [0xB9] .cpAC &&
    reads [0xBA] .cpAD && reads [0xBB] .cpAE && reads [0xBC] .cpAH && reads [0xBD] .cpAL && reads [0xBE] .cpAIndHl &&
    reads [0xBF] .cpAA) = true := by decide

theorem test_decode_primary_Cx :
    (reads [0xC0] .retNz && reads [0xC1] .popBc && reads [0xC2, 0x34, 0xC1] (.jpNzA16 0xC134) &&
    reads [0xC3, 0x34, 0xC1] (.jpA16 0xC134) && reads [0xC4, 0x34, 0xC1] (.callNzA16 0xC134) && reads [0xC5] .pushBc &&
    reads [0xC6, 0x60] (.addAD8 0x60) && reads [0xC7] .rst00 && reads [0xC8] .retZ && reads [0xC9] .ret &&
    reads [0xCA, 0x34, 0xC1] (.jpZA16 0xC134) && reads [0xCB] .prefixCb && reads [0xCC, 0x34, 0xC1] (.callZA16 0xC134) &&
    reads [0xCD, 0x34, 0xC1] (.callA16 0xC134) && reads [0xCE, 0x60] (.adcAD8 0x60) && reads [0xCF] .rst08) = true := by decide

theorem test_decode_primary_Dx :
    (reads [0xD0] .retNc && reads [0xD1] .popDe && reads [0xD2, 0x34, 0xC1] (.jpNcA16 0xC134) && reads [0xD3] .illegalD3 &&
    reads [0xD4, 0x34, 0xC1] (.callNcA16 0xC134) && reads [0xD5] .pushDe && reads [0xD6, 0x60] (.subAD8 0x60) &&
    reads [0xD7] .rst10 && reads [0xD8] .retC && reads [0xD9] .reti && reads [0xDA, 0x34, 0xC1] (.jpCA16 0xC134) &&
    reads [0xDB] .illegalDB && reads [0xDC, 0x34, 0xC1] (.callCA16 0xC134) && reads [0xDD] .illegalDD &&
    reads [0xDE, 0x60] (.sbcAD8 0x60) && reads [0xDF] .rst18) = true := by decide

theorem test_decode_primary_Ex :
    (reads [0xE0, 0x5A] (.ldhIndA8A 0x5A) && reads [0xE1] .popHl && reads [0xE2] .ldhIndCA && reads [0xE3] .illegalE3 &&
    reads [0xE4] .illegalE4 && reads [0xE5] .pushHl && reads [0xE6, 0x60] (.andAD8 0x60) && reads [0xE7] .rst20 &&
    reads [0xE8, 0x5A] (.addSpE8 0x5A) && reads [0xE9] .jpHl && reads [0xEA, 0x34, 0xC1] (.ldIndA16A 0xC134) &&
    reads [0xEB] .illegalEB && reads [0xEC] .illegalEC && reads [0xED] .illegalED && reads [0xEE, 0x60] (.xorAD8 0x60) &&
    reads [0xEF] .rst28) = true := by decide

theorem test_decode_primary_Fx :
    (reads [0xF0, 0x5A] (.ldhAIndA8 0x5A) && reads [0xF1] .popAf && reads [0xF2] .ldhAIndC && reads [0xF3] .di &&
    reads [0xF4] .illegalF4 && reads [0xF5] .pushAf && reads [0xF6, 0x60] (.orAD8 0x60) && reads [0xF7] .rst30 &&
    reads [0xF8, 0x5A] (.ldHlSpE8 0x5A) && reads [0xF9] .ldSpHl && reads [0xFA, 0x34, 0xC1] (.ldAIndA16 0xC134) &&
    reads [0xFB] .ei && reads [0xFC] .illegalFC && reads [0xFD] .illegalFD && reads [0xFE, 0x60] (.cpAD8 0x60) &&
    reads [0xFF] .rst38) = true := by decide

theorem test_decode_secondary_0x :
    (reads [0xCB, 0x00] .rlcB && reads [0xCB, 0x01] .rlcC && reads [0xCB, 0x02] .rlcD && reads [0xCB, 0x03] .rlcE &&
    reads [0xCB, 0x04] .rlcH && reads [0xCB, 0x05] .rlcL && reads [0xCB, 0x06] .rlcIndHl && reads [0xCB, 0x07] .rlcA &&
    reads [0xCB, 0x08] .rrcB && reads [0xCB, 0x09] .rrcC && reads [0xCB, 0x0A] .rrcD && reads [0xCB, 0x0B] .rrcE &&
    reads [0xCB, 0x0C] .rrcH && reads [0xCB, 0x0D] .rrcL && reads [0xCB, 0x0E] .rrcIndHl &&
    reads [0xCB, 0x0F] .rrcA) = true := by decide

theorem test_decode_secondary_1x :
    (reads [0xCB, 0x10] .rlB && reads [0xCB, 0x11] .rlC && reads [0xCB, 0x12] .rlD && reads [0xCB, 0x13] .rlE &&
    reads [0xCB, 0x14] .rlH && reads [0xCB, 0x15] .rlL && reads [0xCB, 0x16] .rlIndHl && reads [0xCB, 0x17] .rlA &&
    reads [0xCB, 0x18] .rrB && reads [0xCB, 0x19] .rrC && reads [0xCB, 0x1A] .rrD && reads [0xCB, 0x1B] .rrE &&
    reads [0xCB, 0x1C] .rrH && reads [0xCB, 0x1D] .rrL && reads [0xCB, 0x1E] .rrIndHl &&
    reads [0xCB, 0x1F] .rrA) = true := by decide

theorem test_decode_secondary_2x :
    (reads [0xCB, 0x20] .slaB && reads [0xCB, 0x21] .slaC && reads [0xCB, 0x22] .slaD && reads [0xCB, 0x23] .slaE &&
    reads [0xCB, 0x24] .slaH && reads [0xCB, 0x25] .slaL && reads [0xCB, 0x26] .slaIndHl && reads [0xCB, 0x27] .slaA &&
    reads [0xCB, 0x28] .sraB && reads [0xCB, 0x29] .sraC && reads [0xCB, 0x2A] .sraD && reads [0xCB, 0x2B] .sraE &&
    reads [0xCB, 0x2C] .sraH && reads [0xCB, 0x2D] .sraL && reads [0xCB, 0x2E] .sraIndHl &&
    reads [0xCB, 0x2F] .sraA) = true := by decide

theorem test_decode_secondary_3x :
    (reads [0xCB, 0x30] .swapB && reads [0xCB, 0x31] .swapC && reads [0xCB, 0x32] .swapD && reads [0xCB, 0x33] .swapE &&
    reads [0xCB, 0x34] .swapH && reads [0xCB, 0x35] .swapL && reads [0xCB, 0x36] .swapIndHl && reads [0xCB, 0x37] .swapA &&
    reads [0xCB, 0x38] .srlB && reads [0xCB, 0x39] .srlC && reads [0xCB, 0x3A] .srlD && reads [0xCB, 0x3B] .srlE &&
    reads [0xCB, 0x3C] .srlH && reads [0xCB, 0x3D] .srlL && reads [0xCB, 0x3E] .srlIndHl &&
    reads [0xCB, 0x3F] .srlA) = true := by decide

theorem test_decode_secondary_4x :
    (reads [0xCB, 0x40] .bit0B && reads [0xCB, 0x41] .bit0C && reads [0xCB, 0x42] .bit0D && reads [0xCB, 0x43] .bit0E &&
    reads [0xCB, 0x44] .bit0H && reads [0xCB, 0x45] .bit0L && reads [0xCB, 0x46] .bit0IndHl && reads [0xCB, 0x47] .bit0A &&
    reads [0xCB, 0x48] .bit1B && reads [0xCB, 0x49] .bit1C && reads [0xCB, 0x4A] .bit1D && reads [0xCB, 0x4B] .bit1E &&
    reads [0xCB, 0x4C] .bit1H && reads [0xCB, 0x4D] .bit1L && reads [0xCB, 0x4E] .bit1IndHl &&
    reads [0xCB, 0x4F] .bit1A) = true := by decide

theorem test_decode_secondary_5x :
    (reads [0xCB, 0x50] .bit2B && reads [0xCB, 0x51] .bit2C && reads [0xCB, 0x52] .bit2D && reads [0xCB, 0x53] .bit2E &&
    reads [0xCB, 0x54] .bit2H && reads [0xCB, 0x55] .bit2L && reads [0xCB, 0x56] .bit2IndHl && reads [0xCB, 0x57] .bit2A &&
    reads [0xCB, 0x58] .bit3B && reads [0xCB, 0x59] .bit3C && reads [0xCB, 0x5A] .bit3D && reads [0xCB, 0x5B] .bit3E &&
    reads [0xCB, 0x5C] .bit3H && reads [0xCB, 0x5D] .bit3L && reads [0xCB, 0x5E] .bit3IndHl &&
    reads [0xCB, 0x5F] .bit3A) = true := by decide

theorem test_decode_secondary_6x :
    (reads [0xCB, 0x60] .bit4B && reads [0xCB, 0x61] .bit4C && reads [0xCB, 0x62] .bit4D && reads [0xCB, 0x63] .bit4E &&
    reads [0xCB, 0x64] .bit4H && reads [0xCB, 0x65] .bit4L && reads [0xCB, 0x66] .bit4IndHl && reads [0xCB, 0x67] .bit4A &&
    reads [0xCB, 0x68] .bit5B && reads [0xCB, 0x69] .bit5C && reads [0xCB, 0x6A] .bit5D && reads [0xCB, 0x6B] .bit5E &&
    reads [0xCB, 0x6C] .bit5H && reads [0xCB, 0x6D] .bit5L && reads [0xCB, 0x6E] .bit5IndHl &&
    reads [0xCB, 0x6F] .bit5A) = true := by decide

theorem test_decode_secondary_7x :
    (reads [0xCB, 0x70] .bit6B && reads [0xCB, 0x71] .bit6C && reads [0xCB, 0x72] .bit6D && reads [0xCB, 0x73] .bit6E &&
    reads [0xCB, 0x74] .bit6H && reads [0xCB, 0x75] .bit6L && reads [0xCB, 0x76] .bit6IndHl && reads [0xCB, 0x77] .bit6A &&
    reads [0xCB, 0x78] .bit7B && reads [0xCB, 0x79] .bit7C && reads [0xCB, 0x7A] .bit7D && reads [0xCB, 0x7B] .bit7E &&
    reads [0xCB, 0x7C] .bit7H && reads [0xCB, 0x7D] .bit7L && reads [0xCB, 0x7E] .bit7IndHl &&
    reads [0xCB, 0x7F] .bit7A) = true := by decide

theorem test_decode_secondary_8x :
    (reads [0xCB, 0x80] .res0B && reads [0xCB, 0x81] .res0C && reads [0xCB, 0x82] .res0D && reads [0xCB, 0x83] .res0E &&
    reads [0xCB, 0x84] .res0H && reads [0xCB, 0x85] .res0L && reads [0xCB, 0x86] .res0IndHl && reads [0xCB, 0x87] .res0A &&
    reads [0xCB, 0x88] .res1B && reads [0xCB, 0x89] .res1C && reads [0xCB, 0x8A] .res1D && reads [0xCB, 0x8B] .res1E &&
    reads [0xCB, 0x8C] .res1H && reads [0xCB, 0x8D] .res1L && reads [0xCB, 0x8E] .res1IndHl &&
    reads [0xCB, 0x8F] .res1A) = true := by decide

theorem test_decode_secondary_9x :
    (reads [0xCB, 0x90] .res2B && reads [0xCB, 0x91] .res2C && reads [0xCB, 0x92] .res2D && reads [0xCB, 0x93] .res2E &&
    reads [0xCB, 0x94] .res2H && reads [0xCB, 0x95] .res2L && reads [0xCB, 0x96] .res2IndHl && reads [0xCB, 0x97] .res2A &&
    reads [0xCB, 0x98] .res3B && reads [0xCB, 0x99] .res3C && reads [0xCB, 0x9A] .res3D && reads [0xCB, 0x9B] .res3E &&
    reads [0xCB, 0x9C] .res3H && reads [0xCB, 0x9D] .res3L && reads [0xCB, 0x9E] .res3IndHl &&
    reads [0xCB, 0x9F] .res3A) = true := by decide

theorem test_decode_secondary_Ax :
    (reads [0xCB, 0xA0] .res4B && reads [0xCB, 0xA1] .res4C && reads [0xCB, 0xA2] .res4D && reads [0xCB, 0xA3] .res4E &&
    reads [0xCB, 0xA4] .res4H && reads [0xCB, 0xA5] .res4L && reads [0xCB, 0xA6] .res4IndHl && reads [0xCB, 0xA7] .res4A &&
    reads [0xCB, 0xA8] .res5B && reads [0xCB, 0xA9] .res5C && reads [0xCB, 0xAA] .res5D && reads [0xCB, 0xAB] .res5E &&
    reads [0xCB, 0xAC] .res5H && reads [0xCB, 0xAD] .res5L && reads [0xCB, 0xAE] .res5IndHl &&
    reads [0xCB, 0xAF] .res5A) = true := by decide

theorem test_decode_secondary_Bx :
    (reads [0xCB, 0xB0] .res6B && reads [0xCB, 0xB1] .res6C && reads [0xCB, 0xB2] .res6D && reads [0xCB, 0xB3] .res6E &&
    reads [0xCB, 0xB4] .res6H && reads [0xCB, 0xB5] .res6L && reads [0xCB, 0xB6] .res6IndHl && reads [0xCB, 0xB7] .res6A &&
    reads [0xCB, 0xB8] .res7B && reads [0xCB, 0xB9] .res7C && reads [0xCB, 0xBA] .res7D && reads [0xCB, 0xBB] .res7E &&
    reads [0xCB, 0xBC] .res7H && reads [0xCB, 0xBD] .res7L && reads [0xCB, 0xBE] .res7IndHl &&
    reads [0xCB, 0xBF] .res7A) = true := by decide

theorem test_decode_secondary_Cx :
    (reads [0xCB, 0xC0] .set0B && reads [0xCB, 0xC1] .set0C && reads [0xCB, 0xC2] .set0D && reads [0xCB, 0xC3] .set0E &&
    reads [0xCB, 0xC4] .set0H && reads [0xCB, 0xC5] .set0L && reads [0xCB, 0xC6] .set0IndHl && reads [0xCB, 0xC7] .set0A &&
    reads [0xCB, 0xC8] .set1B && reads [0xCB, 0xC9] .set1C && reads [0xCB, 0xCA] .set1D && reads [0xCB, 0xCB] .set1E &&
    reads [0xCB, 0xCC] .set1H && reads [0xCB, 0xCD] .set1L && reads [0xCB, 0xCE] .set1IndHl &&
    reads [0xCB, 0xCF] .set1A) = true := by decide

theorem test_decode_secondary_Dx :
    (reads [0xCB, 0xD0] .set2B && reads [0xCB, 0xD1] .set2C && reads [0xCB, 0xD2] .set2D && reads [0xCB, 0xD3] .set2E &&
    reads [0xCB, 0xD4] .set2H && reads [0xCB, 0xD5] .set2L && reads [0xCB, 0xD6] .set2IndHl && reads [0xCB, 0xD7] .set2A &&
    reads [0xCB, 0xD8] .set3B && reads [0xCB, 0xD9] .set3C && reads [0xCB, 0xDA] .set3D && reads [0xCB, 0xDB] .set3E &&
    reads [0xCB, 0xDC] .set3H && reads [0xCB, 0xDD] .set3L && reads [0xCB, 0xDE] .set3IndHl &&
    reads [0xCB, 0xDF] .set3A) = true := by decide

theorem test_decode_secondary_Ex :
    (reads [0xCB, 0xE0] .set4B && reads [0xCB, 0xE1] .set4C && reads [0xCB, 0xE2] .set4D && reads [0xCB, 0xE3] .set4E &&
    reads [0xCB, 0xE4] .set4H && reads [0xCB, 0xE5] .set4L && reads [0xCB, 0xE6] .set4IndHl && reads [0xCB, 0xE7] .set4A &&
    reads [0xCB, 0xE8] .set5B && reads [0xCB, 0xE9] .set5C && reads [0xCB, 0xEA] .set5D && reads [0xCB, 0xEB] .set5E &&
    reads [0xCB, 0xEC] .set5H && reads [0xCB, 0xED] .set5L && reads [0xCB, 0xEE] .set5IndHl &&
    reads [0xCB, 0xEF] .set5A) = true := by decide

theorem test_decode_secondary_Fx :
    (reads [0xCB, 0xF0] .set6B && reads [0xCB, 0xF1] .set6C && reads [0xCB, 0xF2] .set6D && reads [0xCB, 0xF3] .set6E &&
    reads [0xCB, 0xF4] .set6H && reads [0xCB, 0xF5] .set6L && reads [0xCB, 0xF6] .set6IndHl && reads [0xCB, 0xF7] .set6A &&
    reads [0xCB, 0xF8] .set7B && reads [0xCB, 0xF9] .set7C && reads [0xCB, 0xFA] .set7D && reads [0xCB, 0xFB] .set7E &&
    reads [0xCB, 0xFC] .set7H && reads [0xCB, 0xFD] .set7L && reads [0xCB, 0xFE] .set7IndHl &&
    reads [0xCB, 0xFF] .set7A) = true := by decide

/-- The escape byte alone is its own row (log entry 7); an opcode without its operand bytes decodes to nothing. -/
theorem test_decode_short : decode [0xCB] = .ok (.prefixCb, []) ∧ decode [] = .error .noByte ∧
    decode [0x01, 0x34] = .error (.missingOperand 0x01) ∧ decode [0x06] = .error (.missingOperand 0x06) := by decide

/-- What follows an instruction is left over. -/
theorem test_decode_rest : decode [0x21, 0x00, 0xC0, 0x2A] = .ok (.ldHlD16 0xC000, [0x2A]) := by decide

/-- The table's numbering (log entry 7): a CB row has its first byte in bits 15-8. -/
theorem test_table_word : decodeTableWord 8 0x41 = some .ldBC ∧ decodeTableWord 8 0x01 = some (.ldBcD16 0) ∧
    decodeTableWord 16 0xCB7C = some .bit7H ∧ decodeTableWord 8 0xCB = some .prefixCb := by decide

/-- The one ill-formed row is the escape byte by itself (R153). -/
theorem test_wellFormed_refuses_escape : Instr.prefixCb.wellFormed = false ∧ Instr.stop.wellFormed = true ∧
    (Instr.bit0IndHl).wellFormed = true := by decide

/-! ### One step -/

/-- The reset state with `bytes` at 0100 (95_test_vectors.md, Conventions). -/
def start (bytes : List Byte) : State := placeBytes 0x0100 bytes State.reset

/-- The state after one step, if the step answers one. -/
def after (s : State) : Option State :=
  match step s with
  | .next t => some t
  | .fault _ => none
  | .refused _ => none

/-- The outcome of an execution, if it is a next state. -/
def done (o : Out) : Option State :=
  match o with
  | .next t => some t
  | .fault _ => none
  | .refused _ => none

/-! Loads (95_test_vectors.md 2.1) -/

theorem test_ld_b_c : (after { start [0x41] with regs := { State.reset.regs with c := 0x5A } }).map
    (fun t => (t.regs.b, t.regs.pc, t.stepCycles)) =
    some (0x5A, 0x0101, 1) := by decide

theorem test_ld_indHl_a : (after { start [0x77] with regs := { State.reset.regs with a := 0x99, h := 0xC0, l := 0x00 } }).map
    (fun t => (t.mem.read 0xC000, t.stepCycles)) =
    some (0x99, 2) := by decide

theorem test_ld_a_hlInc_wraps :
    (after { start [0x2A] with regs := { State.reset.regs with h := 0xFF, l := 0xFF }, ie := 0x3C }).map
    (fun t => (t.regs.a, t.pair .hl, t.stepCycles)) =
    some (0x3C, 0x0000, 2) := by decide

theorem test_ld_hlDec_a : (after { start [0x32] with regs := { State.reset.regs with a := 0x11, h := 0xC0, l := 0x00 } }).map
    (fun t => (t.mem.read 0xC000, t.pair .hl, t.stepCycles)) =
    some (0x11, 0xBFFF, 2) := by decide

theorem test_ld_a16_sp : (after { start [0x08, 0x00, 0xC1] with regs := { State.reset.regs with sp := 0x1234 } }).map
    (fun t => (t.mem.read 0xC100, t.mem.read 0xC101, t.regs.pc, t.stepCycles)) =
    some (0x34, 0x12, 0x0103, 5) := by decide

theorem test_ldh_a8_a : (after { start [0xE0, 0x80] with regs := { State.reset.regs with a := 0x42 } }).map
    (fun t => (t.mem.read 0xFF80, t.regs.pc, t.stepCycles)) =
    some (0x42, 0x0102, 3) := by decide

theorem test_ldh_a_c : (after { start [0xF2] with regs := { State.reset.regs with c := 0x44 } }).map
    (fun t => (t.regs.a, t.stepCycles)) =
    some (0x00, 2) := by decide

theorem test_ld_a16_a : (after { start [0xEA, 0x80, 0xFF] with regs := { State.reset.regs with a := 0x77 } }).map
    (fun t => (t.mem.read 0xFF80, t.regs.pc, t.stepCycles)) =
    some (0x77, 0x0103, 4) := by decide

theorem test_ld_bc_d16 : (after (start [0x01, 0x34, 0x12])).map
    (fun t => (t.regs.b, t.regs.c, t.regs.pc, t.stepCycles)) =
    some (0x12, 0x34, 0x0103, 3) := by decide

theorem test_push_bc : (after { start [0xC5] with regs := { State.reset.regs with b := 0x12, c := 0xFF, sp := 0xDFF0 } }).map
    (fun t => (t.mem.read 0xDFEF, t.mem.read 0xDFEE, t.regs.sp, t.stepCycles)) =
    some (0x12, 0xFF, 0xDFEE, 4) := by decide

theorem test_pop_af_masks :
    (after { placeByte 0xDFEF 0x12 (placeByte 0xDFEE 0xFF (start [0xF1])) with regs := { State.reset.regs with sp := 0xDFEE } }).map
    (fun t => (t.regs.a, t.regs.f, t.regs.sp, t.stepCycles)) =
    some (0x12, 0xF0, 0xDFF0, 3) := by decide

theorem test_ld_hl_sp_plus : (after { start [0xF8, 0x01] with regs := { State.reset.regs with sp := 0x00FF } }).map
    (fun t => (t.pair .hl, t.regs.f, t.stepCycles)) =
    some (0x0100, 0x30, 3) := by decide

theorem test_ld_hl_sp_minus : (after { start [0xF8, 0xFF] with regs := { State.reset.regs with sp := 0x0000 } }).map
    (fun t => (t.pair .hl, t.regs.f)) =
    some (0xFFFF, 0x00) := by decide

theorem test_ld_sp_hl : (after { start [0xF9] with regs := { State.reset.regs with h := 0xC0, l := 0xDE } }).map
    (fun t => (t.regs.sp, t.stepCycles)) =
    some (0xC0DE, 2) := by decide

/-- R204. -/
theorem test_ld_indHl_d8 : (after { start [0x36, 0x5A] with regs := { State.reset.regs with h := 0xC0, l := 0x00 } }).map
    (fun t => (t.mem.read 0xC000, t.regs.pc, t.stepCycles)) =
    some (0x5A, 0x0102, 3) := by decide

/-- R209. -/
theorem test_ld_a_a16 : (after (placeByte 0xC000 0x5A (start [0xFA, 0x00, 0xC0]))).map
    (fun t => (t.regs.a, t.regs.pc, t.stepCycles)) =
    some (0x5A, 0x0103, 4) := by decide

/-! 8-bit arithmetic and logic (2.2) -/

theorem test_add_half : (after { start [0x80] with regs := { State.reset.regs with a := 0x0F, b := 0x01, f := 0x00 } }).map
    (fun t => (t.regs.a, t.regs.f, t.stepCycles)) =
    some (0x10, 0x20, 1) := by decide

theorem test_add_wraps : (after { start [0x80] with regs := { State.reset.regs with a := 0xFF, b := 0x01, f := 0x00 } }).map
    (fun t => (t.regs.a, t.regs.f, t.stepCycles)) =
    some (0x00, 0xB0, 1) := by decide

theorem test_adc_half : (after { start [0x88] with regs := { State.reset.regs with a := 0x0F, b := 0x00, f := 0x10 } }).map
    (fun t => (t.regs.a, t.regs.f, t.stepCycles)) =
    some (0x10, 0x20, 1) := by decide

theorem test_adc_wraps : (after { start [0x88] with regs := { State.reset.regs with a := 0xFF, b := 0x00, f := 0x10 } }).map
    (fun t => (t.regs.a, t.regs.f, t.stepCycles)) =
    some (0x00, 0xB0, 1) := by decide

theorem test_sub_half : (after { start [0x90] with regs := { State.reset.regs with a := 0x10, b := 0x01, f := 0x00 } }).map
    (fun t => (t.regs.a, t.regs.f, t.stepCycles)) =
    some (0x0F, 0x60, 1) := by decide

theorem test_sub_borrows : (after { start [0x90] with regs := { State.reset.regs with a := 0x01, b := 0x02, f := 0x00 } }).map
    (fun t => (t.regs.a, t.regs.f, t.stepCycles)) =
    some (0xFF, 0x70, 1) := by decide

theorem test_sbc_half : (after { start [0x98] with regs := { State.reset.regs with a := 0x10, b := 0x0F, f := 0x10 } }).map
    (fun t => (t.regs.a, t.regs.f, t.stepCycles)) =
    some (0x00, 0xE0, 1) := by decide

theorem test_sbc_borrows : (after { start [0x98] with regs := { State.reset.regs with a := 0x00, b := 0xFF, f := 0x10 } }).map
    (fun t => (t.regs.a, t.regs.f, t.stepCycles)) =
    some (0x00, 0xF0, 1) := by decide

theorem test_and_zero : (after { start [0xA0] with regs := { State.reset.regs with a := 0xF0, b := 0x0F, f := 0x00 } }).map
    (fun t => (t.regs.a, t.regs.f, t.stepCycles)) =
    some (0x00, 0xA0, 1) := by decide

theorem test_xor_self : (after { start [0xAF] with regs := { State.reset.regs with a := 0x5A, f := 0x00 } }).map
    (fun t => (t.regs.a, t.regs.f, t.stepCycles)) =
    some (0x00, 0x80, 1) := by decide

theorem test_or_zero : (after { start [0xB0] with regs := { State.reset.regs with a := 0x00, b := 0x00, f := 0xF0 } }).map
    (fun t => (t.regs.a, t.regs.f, t.stepCycles)) =
    some (0x00, 0x80, 1) := by decide

theorem test_cp_equal : (after { start [0xB8] with regs := { State.reset.regs with a := 0x3C, b := 0x3C, f := 0x00 } }).map
    (fun t => (t.regs.a, t.regs.f, t.stepCycles)) =
    some (0x3C, 0xC0, 1) := by decide

theorem test_cp_d8 : (after { start [0xFE, 0x40] with regs := { State.reset.regs with a := 0x3C, f := 0x00 } }).map
    (fun t => (t.regs.a, t.regs.f, t.stepCycles)) =
    some (0x3C, 0x50, 2) := by decide

theorem test_inc_a_wraps : (after { start [0x3C] with regs := { State.reset.regs with a := 0xFF, f := 0x10 } }).map
    (fun t => (t.regs.a, t.regs.f, t.stepCycles)) =
    some (0x00, 0xB0, 1) := by decide

theorem test_inc_b_half : (after { start [0x04] with regs := { State.reset.regs with b := 0x0F, f := 0x00 } }).map
    (fun t => (t.regs.b, t.regs.f)) =
    some (0x10, 0x20) := by decide

theorem test_dec_a_zero : (after { start [0x3D] with regs := { State.reset.regs with a := 0x01, f := 0x10 } }).map
    (fun t => (t.regs.a, t.regs.f, t.stepCycles)) =
    some (0x00, 0xD0, 1) := by decide

theorem test_dec_a_wraps : (after { start [0x3D] with regs := { State.reset.regs with a := 0x00, f := 0x00 } }).map
    (fun t => (t.regs.a, t.regs.f, t.stepCycles)) =
    some (0xFF, 0x60, 1) := by decide

theorem test_inc_indHl :
    (after { placeByte 0xC000 0xFF (start [0x34]) with regs := { State.reset.regs with h := 0xC0, l := 0x00, f := 0x00 } }).map
    (fun t => (t.mem.read 0xC000, t.regs.f, t.stepCycles)) =
    some (0x00, 0xA0, 3) := by decide

/-- R268. -/
theorem test_dec_indHl : (after { start [0x35] with regs := { State.reset.regs with h := 0xC0, l := 0x00, f := 0x10 } }).map
    (fun t => (t.mem.read 0xC000, t.regs.f, t.stepCycles)) =
    some (0xFF, 0x70, 3) := by decide

theorem test_daa_both : (after { start [0x27] with regs := { State.reset.regs with a := 0x9A, f := 0x00 } }).map
    (fun t => (t.regs.a, t.regs.f, t.stepCycles)) =
    some (0x00, 0x90, 1) := by decide

theorem test_daa_carry : (after { start [0x27] with regs := { State.reset.regs with a := 0x00, f := 0x10 } }).map
    (fun t => (t.regs.a, t.regs.f, t.stepCycles)) =
    some (0x60, 0x10, 1) := by decide

theorem test_rlca : (after { start [0x07] with regs := { State.reset.regs with a := 0x80, f := 0x00 } }).map
    (fun t => (t.regs.a, t.regs.f, t.stepCycles)) =
    some (0x01, 0x10, 1) := by decide

theorem test_rlca_clears_z : (after { start [0x07] with regs := { State.reset.regs with a := 0x00, f := 0x80 } }).map
    (fun t => (t.regs.a, t.regs.f, t.stepCycles)) =
    some (0x00, 0x00, 1) := by decide

theorem test_rrca : (after { start [0x0F] with regs := { State.reset.regs with a := 0x01, f := 0x00 } }).map
    (fun t => (t.regs.a, t.regs.f, t.stepCycles)) =
    some (0x80, 0x10, 1) := by decide

theorem test_rla : (after { start [0x17] with regs := { State.reset.regs with a := 0x80, f := 0x00 } }).map
    (fun t => (t.regs.a, t.regs.f, t.stepCycles)) =
    some (0x00, 0x10, 1) := by decide

theorem test_rra : (after { start [0x1F] with regs := { State.reset.regs with a := 0x01, f := 0x10 } }).map
    (fun t => (t.regs.a, t.regs.f, t.stepCycles)) =
    some (0x80, 0x10, 1) := by decide

theorem test_cpl : (after { start [0x2F] with regs := { State.reset.regs with a := 0x35, f := 0x00 } }).map
    (fun t => (t.regs.a, t.regs.f, t.stepCycles)) =
    some (0xCA, 0x60, 1) := by decide

theorem test_scf : (after { start [0x37] with regs := { State.reset.regs with f := 0xE0 } }).map
    (fun t => (t.regs.a, t.regs.f)) =
    some (0x01, 0x90) := by decide

theorem test_ccf : (after { start [0x3F] with regs := { State.reset.regs with f := 0xF0 } }).map
    (fun t => (t.regs.a, t.regs.f)) =
    some (0x01, 0x80) := by decide

/-! 16-bit arithmetic (2.3) -/

theorem test_add_hl_bc_half :
    (after { start [0x09] with regs := { State.reset.regs with h := 0x0F, l := 0xFF, b := 0x00, c := 0x01, f := 0x80 } }).map
    (fun t => (t.pair .hl, t.regs.f, t.stepCycles)) =
    some (0x1000, 0xA0, 2) := by decide

theorem test_add_hl_bc_wraps :
    (after { start [0x09] with regs := { State.reset.regs with h := 0xFF, l := 0xFF, b := 0x00, c := 0x01, f := 0x40 } }).map
    (fun t => (t.pair .hl, t.regs.f)) =
    some (0x0000, 0x30) := by decide

theorem test_add_hl_hl : (after { start [0x29] with regs := { State.reset.regs with h := 0x80, l := 0x00, f := 0x00 } }).map
    (fun t => (t.pair .hl, t.regs.f)) =
    some (0x0000, 0x10) := by decide

theorem test_inc_bc_wraps : (after { start [0x03] with regs := { State.reset.regs with b := 0xFF, c := 0xFF, f := 0x50 } }).map
    (fun t => (t.pair .bc, t.regs.f, t.stepCycles)) =
    some (0x0000, 0x50, 2) := by decide

theorem test_dec_de_wraps : (after { start [0x1B] with regs := { State.reset.regs with d := 0x00, e := 0x00 } }).map
    (fun t => (t.pair .de, t.stepCycles)) =
    some (0xFFFF, 2) := by decide

theorem test_add_sp_plus : (after { start [0xE8, 0x08] with regs := { State.reset.regs with sp := 0xFFF8, f := 0xC0 } }).map
    (fun t => (t.regs.sp, t.regs.f, t.stepCycles)) =
    some (0x0000, 0x30, 4) := by decide

theorem test_add_sp_minus : (after { start [0xE8, 0xFF] with regs := { State.reset.regs with sp := 0x0001, f := 0x00 } }).map
    (fun t => (t.regs.sp, t.regs.f)) =
    some (0x0000, 0x30) := by decide

/-! Control transfer (2.4) -/

theorem test_jp_a16 : (after (start [0xC3, 0x50, 0x01])).map
    (fun t => (t.regs.pc, t.stepCycles)) =
    some (0x0150, 4) := by decide

theorem test_jp_hl : (after { start [0xE9] with regs := { State.reset.regs with h := 0x40, l := 0x00 } }).map
    (fun t => (t.regs.pc, t.stepCycles)) =
    some (0x4000, 1) := by decide

theorem test_jr_self : (after (start [0x18, 0xFE])).map
    (fun t => (t.regs.pc, t.stepCycles)) =
    some (0x0100, 3) := by decide

theorem test_jr_back : (after (start [0x18, 0x80])).map
    (fun t => (t.regs.pc, t.stepCycles)) =
    some (0x0082, 3) := by decide

theorem test_jr_nz_taken : (after { start [0x20, 0x05] with regs := { State.reset.regs with f := 0x00 } }).map
    (fun t => (t.regs.pc, t.stepCycles)) =
    some (0x0107, 3) := by decide

theorem test_jr_nz_not_taken : (after { start [0x20, 0x05] with regs := { State.reset.regs with f := 0x80 } }).map
    (fun t => (t.regs.pc, t.stepCycles)) =
    some (0x0102, 2) := by decide

theorem test_jp_c_not_taken : (after { start [0xDA, 0x00, 0x20] with regs := { State.reset.regs with f := 0x00 } }).map
    (fun t => (t.regs.pc, t.stepCycles)) =
    some (0x0103, 3) := by decide

theorem test_jp_c_taken : (after { start [0xDA, 0x00, 0x20] with regs := { State.reset.regs with f := 0x10 } }).map
    (fun t => (t.regs.pc, t.stepCycles)) =
    some (0x2000, 4) := by decide

theorem test_call_a16 : (after { start [0xCD, 0x00, 0x02] with regs := { State.reset.regs with sp := 0xDFF0 } }).map
    (fun t => (t.regs.pc, t.regs.sp, t.mem.read 0xDFEE, t.mem.read 0xDFEF, t.stepCycles)) =
    some (0x0200, 0xDFEE, 0x03, 0x01, 6) := by decide

theorem test_call_nz_not_taken :
    (after { start [0xC4, 0x00, 0x02] with regs := { State.reset.regs with sp := 0xDFF0, f := 0x80 } }).map
    (fun t => (t.regs.pc, t.regs.sp, t.stepCycles)) =
    some (0x0103, 0xDFF0, 3) := by decide

theorem test_ret :
    (after { placeByte 0xDFEF 0x01 (placeByte 0xDFEE 0x03 (start [0xC9])) with regs := { State.reset.regs with sp := 0xDFEE } }).map
    (fun t => (t.regs.pc, t.regs.sp, t.stepCycles)) =
    some (0x0103, 0xDFF0, 4) := by decide

theorem test_ret_z_taken :
    (after { placeByte 0xDFEF 0x01 (placeByte 0xDFEE 0x03 (start [0xC8])) with
        regs := { State.reset.regs with sp := 0xDFEE, f := 0x80 } }).map
    (fun t => (t.regs.pc, t.regs.sp, t.stepCycles)) =
    some (0x0103, 0xDFF0, 5) := by decide

theorem test_ret_nc_not_taken : (after { start [0xD0] with regs := { State.reset.regs with sp := 0xDFEE, f := 0x10 } }).map
    (fun t => (t.regs.pc, t.regs.sp, t.stepCycles)) =
    some (0x0101, 0xDFEE, 2) := by decide

theorem test_rst_38 : (after { start [0xFF] with regs := { State.reset.regs with sp := 0xDFF0 } }).map
    (fun t => (t.regs.pc, t.regs.sp, t.mem.read 0xDFEE, t.mem.read 0xDFEF, t.stepCycles)) =
    some (0x0038, 0xDFEE, 0x01, 0x01, 4) := by decide

theorem test_reti :
    (after { placeByte 0xDFEF 0x01 (placeByte 0xDFEE 0x03 (start [0xD9])) with regs := { State.reset.regs with sp := 0xDFEE } }).map
    (fun t => (t.regs.pc, t.ime, t.imeState, t.stepCycles)) =
    some (0x0103, true, .stable, 4) := by decide

theorem test_pc_wraps_at_ffff : (after { start [] with regs := { State.reset.regs with pc := 0xFFFF } }).map
    (fun t => (t.regs.pc, t.stepCycles)) =
    some (0x0000, 1) := by decide

/-! System (2.5) -/

theorem test_halt_bug : (after { start [0x76] with ie := 0x01 }).map
    (fun t => (t.halt, t.regs.pc, t.stepCycles)) =
    some (.bug, 0x0101, 1) := by decide

theorem test_halt_on : (after (start [0x76])).map
    (fun t => (t.halt, t.regs.pc, t.stepCycles)) =
    some (.on, 0x0101, 1) := by decide

theorem test_bug_fetch : (after { start [0x3C] with regs := { State.reset.regs with a := 0x00 }, halt := .bug }).map
    (fun t => (t.regs.a, t.regs.pc, t.halt)) =
    some (0x01, 0x0100, .off) := by decide

theorem test_ei : (after (start [0xFB])).map
    (fun t => (t.ime, t.imeState)) =
    some (false, .enableNow) := by decide

theorem test_di : (after { start [0xF3] with imeState := .enableNow }).map
    (fun t => (t.ime, t.imeState)) =
    some (false, .stable) := by decide

theorem test_stop_fault : (after (start [0x10, 0x00])).map
    (fun t => (t.fault, t.regs.pc, t.stepCycles)) =
    some ((some (.unmodelled 0x10 0x0100)), 0x0101, 1) := by decide

theorem test_stop_nop2 : (after { start [0x10, 0x00] with params := { stopMode := .nop2 } }).map
    (fun t => (t.fault, t.regs.pc, t.stepCycles)) =
    some (none, 0x0102, 2) := by decide

theorem test_illegal_d3 : (after (start [0xD3])).map
    (fun t => (t.fault, t.regs.pc, t.stepCycles)) =
    some ((some (.illegalOpcode 0xD3 0x0100)), 0x0101, 1) := by decide

theorem test_illegal_after_halt_bug : (after { start [0xD3] with halt := .bug }).map
    (fun t => (t.fault, t.regs.pc, t.halt)) =
    some ((some (.illegalOpcode 0xD3 0x0100)), 0x0100, .off) := by decide

/-- A recorded fault is what every later step answers (R403). -/
theorem test_faulted_step : after { State.reset with fault := some (.illegalOpcode 0xD3 0x0100) } = none := by decide

/-! CB-prefixed (2.6) -/

theorem test_rlc_b : (after { start [0xCB, 0x00] with regs := { State.reset.regs with b := 0x80, f := 0x00 } }).map
    (fun t => (t.regs.b, t.regs.f, t.stepCycles)) =
    some (0x01, 0x10, 2) := by decide

theorem test_rrc_c : (after { start [0xCB, 0x09] with regs := { State.reset.regs with c := 0x01, f := 0x00 } }).map
    (fun t => (t.regs.c, t.regs.f)) =
    some (0x80, 0x10) := by decide

theorem test_rl_d : (after { start [0xCB, 0x12] with regs := { State.reset.regs with d := 0x80, f := 0x00 } }).map
    (fun t => (t.regs.d, t.regs.f)) =
    some (0x00, 0x90) := by decide

theorem test_rr_e : (after { start [0xCB, 0x1B] with regs := { State.reset.regs with e := 0x01, f := 0x00 } }).map
    (fun t => (t.regs.e, t.regs.f)) =
    some (0x00, 0x90) := by decide

theorem test_sla_h : (after { start [0xCB, 0x24] with regs := { State.reset.regs with h := 0x81, f := 0x00 } }).map
    (fun t => (t.regs.h, t.regs.f)) =
    some (0x02, 0x10) := by decide

theorem test_sra_l : (after { start [0xCB, 0x2D] with regs := { State.reset.regs with l := 0x81, f := 0x00 } }).map
    (fun t => (t.regs.l, t.regs.f)) =
    some (0xC0, 0x10) := by decide

theorem test_swap_a : (after { start [0xCB, 0x37] with regs := { State.reset.regs with a := 0xF1, f := 0x10 } }).map
    (fun t => (t.regs.a, t.regs.f)) =
    some (0x1F, 0x00) := by decide

theorem test_srl_a : (after { start [0xCB, 0x3F] with regs := { State.reset.regs with a := 0x01, f := 0x00 } }).map
    (fun t => (t.regs.a, t.regs.f)) =
    some (0x00, 0x90) := by decide

theorem test_bit_7_h : (after { start [0xCB, 0x7C] with regs := { State.reset.regs with h := 0x7F, f := 0x10 } }).map
    (fun t => (t.regs.f, t.stepCycles)) =
    some (0xB0, 2) := by decide

theorem test_bit_0_a : (after { start [0xCB, 0x47] with regs := { State.reset.regs with a := 0x01, f := 0x00 } }).map
    (fun t => t.regs.f) =
    some 0x20 := by decide

theorem test_res_0_a : (after { start [0xCB, 0x87] with regs := { State.reset.regs with a := 0xFF, f := 0x00 } }).map
    (fun t => (t.regs.a, t.regs.f)) =
    some (0xFE, 0x00) := by decide

theorem test_set_7_b : (after { start [0xCB, 0xF8] with regs := { State.reset.regs with b := 0x00, f := 0x00 } }).map
    (fun t => (t.regs.b, t.regs.f)) =
    some (0x80, 0x00) := by decide

theorem test_set_7_indHl : (after { start [0xCB, 0xFE] with regs := { State.reset.regs with h := 0xC0, l := 0x00 } }).map
    (fun t => (t.mem.read 0xC000, t.stepCycles)) =
    some (0x80, 4) := by decide

theorem test_res_0_indHl :
    (after { placeByte 0xC000 0xFF (start [0xCB, 0x86]) with regs := { State.reset.regs with h := 0xC0, l := 0x00 } }).map
    (fun t => (t.mem.read 0xC000, t.stepCycles)) =
    some (0xFE, 4) := by decide

theorem test_bit_0_indHl :
    (after { start [0xCB, 0x46] with regs := { State.reset.regs with h := 0xC0, l := 0x00, f := 0x00 } }).map
    (fun t => (t.regs.f, t.stepCycles)) =
    some (0xA0, 3) := by decide

theorem test_srl_indHl :
    (after { placeByte 0xC000 0x81 (start [0xCB, 0x3E]) with
        regs := { State.reset.regs with h := 0xC0, l := 0x00, f := 0x00 } }).map
    (fun t => (t.mem.read 0xC000, t.regs.f, t.stepCycles)) =
    some (0x40, 0x10, 4) := by decide

/-- The escape row by itself (R336): one byte fetched, its row executed. -/
theorem test_escape_row : (done (execPrefixCb { start [0x37] with regs := { State.reset.regs with a := 0xF1, f := 0x10 } })).map
    (fun t => (t.regs.a, t.regs.f, t.regs.pc)) = some (0x1F, 0x00, 0x0101) := by decide

/-! Interrupts (2.7, V4) -/

theorem test_dispatch_lowest :
    (after { start [0x00] with
        regs := { State.reset.regs with sp := 0xDFF0 }, ime := true, ie := 0x1F, dev := { State.reset.dev with ifr := 0x1F } }).map
    (fun t => (t.regs.pc, t.dev.ifr, t.ime, t.stepCycles, t.regs.sp)) =
    some (0x0041, 0x1E, false, 6, 0xDFEE) := by decide

theorem test_dispatch_input :
    (after { start [0x00] with
        regs := { State.reset.regs with sp := 0xDFF0 }, ime := true, ie := 0x1F, dev := { State.reset.dev with ifr := 0x10 } }).map
    (fun t => (t.regs.pc, t.dev.ifr, t.ime, t.stepCycles, t.regs.sp)) =
    some (0x0061, 0x00, false, 6, 0xDFEE) := by decide

theorem test_dispatch_not_enabled :
    (after { start [0x00] with
        regs := { State.reset.regs with sp := 0xDFF0 }, ime := true, ie := 0x04, dev := { State.reset.dev with ifr := 0x01 } }).map
    (fun t => (t.regs.pc, t.dev.ifr, t.ime, t.stepCycles, t.regs.sp)) =
    some (0x0101, 0x01, true, 1, 0xDFF0) := by decide

theorem test_enable_after_next : (after { start [0x00] with imeState := .enableNow }).map
    (fun t => (t.ime, t.imeState, t.regs.pc)) =
    some (true, .stable, 0x0101) := by decide

theorem test_wake_without_dispatch :
    (after { start [0x3C] with
        regs := { State.reset.regs with a := 0x00 }, halt := .on, ie := 0x02, dev := { State.reset.dev with ifr := 0x02 } }).map
    (fun t => (t.regs.a, t.halt, t.dev.ifr)) =
    some (0x01, .off, 0x02) := by decide

theorem test_halted_step : (after { start [0x3C] with regs := { State.reset.regs with a := 0x00 }, halt := .on }).map
    (fun t => (t.regs.a, t.halt, t.regs.pc, t.stepCycles)) =
    some (0x00, .on, 0x0100, 1) := by decide

/-- Injecting Right sets IF to 11 and P1 reads CE; with its group deselected nothing is requested and P1 reads DF (2.7). -/
theorem test_input : (injectInput 0x1 0x0 State.reset).dev.ifr = 0x11 ∧
    routeRead 0xFF00 (injectInput 0x1 0x0 State.reset) = 0xCE ∧
    (injectInput 0x1 0x0 (routeWrite 0xFF00 0x10 State.reset)).dev.ifr = 0x01 ∧
    routeRead 0xFF00 (injectInput 0x1 0x0 (routeWrite 0xFF00 0x10 State.reset)) = 0xDF := by decide

/-! The timer (2.8) -/

/-- Reset with the timer at `counter`, TAC, TIMA and TMA, its edge detector in order, and no request. -/
def timed (counter : Word) (tac : BitVec 3) (tima tma : Byte) : State :=
  { State.reset with dev := { State.reset.dev with
      ifr := 0
      timer := { counter := counter, edge := Timer.signal ⟨counter, false, tima, tma, tac⟩, tima := tima, tma := tma
                 tac := tac } } }

theorem test_div_write_counts : (routeWrite 0xFF04 0x00 (timed 0x0008 5 0x10 0)).dev.timer =
    { counter := 0, edge := false, tima := 0x11, tma := 0, tac := 5 } := by decide

theorem test_div_write_overflow : (routeWrite 0xFF04 0x00 (timed 0x0008 5 0xFF 0x33)).dev.timer.tima = 0x33 ∧
    (routeWrite 0xFF04 0x00 (timed 0x0008 5 0xFF 0x33)).dev.ifr = 0x04 := by decide

theorem test_tac_write_never_counts : (routeWrite 0xFF07 0x04 (timed 0x0008 5 0x10 0)).dev.timer.tima = 0x10 ∧
    (routeWrite 0xFF07 0x01 (timed 0x0008 5 0x10 0)).dev.timer.edge = false := by decide

theorem test_timer_counts : ((timed 0 5 0xFE 0x80).ticks 4).dev.timer.tima = 0xFF ∧
    ((timed 0 5 0xFE 0x80).ticks 8).dev.timer.tima = 0x80 ∧ ((timed 0 5 0xFE 0x80).ticks 8).dev.ifr = 0x04 ∧
    ((timed 0 5 0xFE 0x80).ticks 12).dev.timer.tima = 0x81 := by decide

/-! The display (2.9) -/

theorem test_mode3_at_20 : (State.reset.ticks 19).dev.display.mode = .oamSearch ∧
    (State.reset.ticks 20).dev.display.mode = .transfer := by decide +kernel

/-- Reset with the display in mode `m` of line `ly`, `dots` left, `stat` its interrupt enables, LYC = `lyc`, and no request. -/
def displayed (m : Mode) (ly : Byte) (dots : Int) (stat : BitVec 4) (lyc : Byte) : State :=
  { State.reset with dev := { State.reset.dev with
      ifr := 0
      display := { State.reset.dev.display with
        mode := m, ly := ly, dots := dots, statEnable := stat, lyc := lyc, coincidence := (ly == lyc) } } }

theorem test_mode0_requests : (displayed .transfer 0 4 1 9).tick.dev.display.mode = .hblank ∧
    (displayed .transfer 0 4 1 9).tick.dev.ifr = 0x02 := by decide

theorem test_vblank_requests : (displayed .hblank 143 4 0 9).tick.dev.display.ly = 144 ∧
    (displayed .hblank 143 4 0 9).tick.dev.ifr = 0x01 ∧
    (displayed .hblank 143 4 0 9).tick.dev.renderer = [.swap] := by decide

theorem test_line_wraps : (displayed .vblank 153 4 4 9).tick.dev.display.ly = 0 ∧
    (displayed .vblank 153 4 4 9).tick.dev.ifr = 0x02 := by decide

theorem test_lyc_matches : (displayed .hblank 1 1 8 2).tick.dev.ifr = 0x02 ∧
    routeRead 0xFF41 (displayed .hblank 1 1 8 2).tick = 0xC6 := by decide

theorem test_lyc_write : routeRead 0xFF41 (routeWrite 0xFF45 0x05 State.reset) = 0x82 ∧
    (routeWrite 0xFF45 0x05 State.reset).dev.ifr = 0x01 := by decide

theorem test_lcd_off_and_on : routeRead 0xFF41 (routeWrite 0xFF40 0x11 State.reset) = 0x84 ∧
    routeRead 0xFF41 (routeWrite 0xFF40 0x91 (routeWrite 0xFF40 0x11 State.reset)) = 0x86 := by decide

/-! The router (2.10) -/

theorem test_echo : routeRead 0xE123 (routeWrite 0xC123 0xAB State.reset) = 0xAB ∧
    routeRead 0xDDFF (routeWrite 0xFDFF 0xCD State.reset) = 0xCD := by decide

theorem test_unmapped : routeRead 0xFEA0 State.reset = 0xFF ∧ routeRead 0xFF03 State.reset = 0xFF ∧
    routeRead 0xFF4D State.reset = 0xFF ∧ routeRead 0xA000 State.reset = 0xFF := by decide

theorem test_rom_write : routeRead 0x2000 (routeWrite 0x2000 0x55 State.reset) = 0x00 := by decide

theorem test_vram_lock : routeRead 0x8000 (routeWrite 0x8000 0x34 (displayed .transfer 0 4 0 9)) = 0xFF ∧
    (routeWrite 0x8000 0x34 (displayed .transfer 0 4 0 9)).mem.read 0x8000 = 0x00 := by decide

theorem test_oam_mode2 : routeRead 0xFE00 (placeByte 0xFE00 0x77 State.reset) = 0x77 ∧
    routeRead 0xFE00 { placeByte 0xFE00 0x77 State.reset with params := { oamLockMode2 := true } } = 0xFF := by decide

/-- The source of OAM DMA (R131): page E0 is read from page C0, and the last byte of a page is byte 9F. -/
theorem test_dma_source : dmaSource 0xC0 0 = 0xC000 ∧ dmaSource 0xE0 0x10 = 0xC010 ∧ dmaSource 0xFF 0x9F = 0xDF9F := by decide

theorem test_dma_byte : (dmaCopy 0xE0 1 (placeByte 0xC000 0xEE State.reset)).mem.read 0xFE00 = 0xEE := by decide

theorem test_ie_stores_8_bits : routeRead 0xFFFF (routeWrite 0xFFFF 0xE5 State.reset) = 0xE5 := by decide

/-- `Run(1)` on a NOP (after V7). -/
theorem test_run : (runFor 1 State.reset).regs.pc = 0x0101 ∧ (runFor 1 State.reset).budget = 0 := by decide +kernel

/-- An instruction placed for the next step is what it runs. -/
theorem test_withFetchWord : (after (State.reset.withFetchWord 16 0xCB37)).map (·.regs.a) = some 0x10 := by decide

/-! ### The hypotheses of the statements are met -/

theorem test_witness_DecodeOfEncode : Instr.nop.wellFormed = true ∧ (Instr.ldBcD16 0xFFFF).wellFormed = true ∧
    (Instr.jrE8 0x80).wellFormed = true ∧ Instr.set7A.wellFormed = true ∧ Instr.illegalFD.wellFormed = true := by decide

/-- Both sides of the second clause. -/
theorem test_witness_EncodeOfDecode : decode [0xCB] = .ok (.prefixCb, []) ∧ decode [0xCB, 0x00] = .ok (.rlcB, []) ∧
    decode [0x00, 0xCB] = .ok (.nop, [0xCB]) := by decide +kernel

/-- SP at the ends of work RAM, of its mirror and of high RAM, and across the seam of the first two. -/
theorem test_witness_stack : ([0xC002, 0xE000, 0xE001, 0xFE00, 0xFF82, 0xFFFF] : List Word).all
    (fun sp => isOpenRam (sp - 1) && isOpenRam (sp - 2)) = true := by decide +kernel

/-- A state with its stack at `sp`. -/
def stackAt (sp : Word) : State := { start [0xC5] with regs := { State.reset.regs with sp := sp } }

theorem test_witness_PushThenPop : (stackAt 0xC002).memOk ∧ isOpenRam ((stackAt 0xC002).regs.sp - 1) = true ∧
    isOpenRam ((stackAt 0xC002).regs.sp - 2) = true := ⟨⟨by decide, by decide⟩, by decide⟩

theorem test_witness_CallThenReturn : (stackAt 0xFF82).memOk ∧ isOpenRam ((stackAt 0xFF82).regs.sp - 1) = true ∧
    isOpenRam ((stackAt 0xFF82).regs.sp - 2) = true := ⟨⟨by decide, by decide⟩, by decide⟩

theorem test_witness_PopWord : (RStk.bc, R16.bc) ∈ [(RStk.bc, R16.bc), (.de, .de), (.hl, .hl)] ∧
    (RStk.hl, R16.hl) ∈ [(RStk.bc, R16.bc), (.de, .de), (.hl, .hl)] := by decide

theorem test_witness_Additions : AluOp.add ∈ [AluOp.add, .adc] ∧ AluOp.adc ∈ [AluOp.add, .adc] := by decide

theorem test_witness_Subtractions : AluOp.sub ∈ [AluOp.sub, .sbc, .cp] ∧ AluOp.cp ∈ [AluOp.sub, .sbc, .cp] := by decide

theorem test_witness_Logic : AluOp.and ∈ [AluOp.and, .xor, .or] ∧ AluOp.or ∈ [AluOp.and, .xor, .or] := by decide

theorem test_witness_Rotates : RotOp.rlc ∈ [RotOp.rlc, .rrc, .rl, .rr] ∧ RotOp.rr ∈ [RotOp.rlc, .rrc, .rl, .rr] := by decide

theorem test_witness_Shifts : RotOp.sla ∈ [RotOp.sla, .sra, .swap, .srl] ∧ RotOp.srl ∈ [RotOp.sla, .sra, .swap, .srl] := by
  decide

/-- Decimal operands at both ends: 0 and 99. -/
theorem test_witness_DecimalArithmetic : (0 : Nat) < 100 ∧ (99 : Nat) < 100 ∧
    { State.reset with regs := { State.reset.regs with a := 0x99 } }.regs.a = decimalByte 99 ∧ decimalByte 0 = 0x00 := by decide

theorem test_witness_AddThenSubtract : R8.b ≠ .a ∧ R8.l ≠ .a := by decide

theorem test_witness_Jumps : State.reset.cond .z = true ∧ State.reset.cond .nz = false ∧ State.reset.cond .c = true ∧
    State.reset.cond .nc = false := by decide

/-- STOP read at PC in both modes, running and in the halt bug, with no interrupt to take. -/
theorem test_witness_Stop : (start [0x10]).params.stopMode = .fault ∧
    { start [0x10] with params := { stopMode := .nop2 } }.params.stopMode = .nop2 ∧
    (start [0x10]).fault = none ∧ (start [0x10]).halt ≠ .on ∧ { start [0x10] with halt := .bug }.halt ≠ .on ∧
    ((start [0x10]).ime && (start [0x10]).pending) = false ∧ routeRead (start [0x10]).regs.pc (start [0x10]) = 0x10 := by decide

/-- An undefined opcode read at PC, with no interrupt to take: the first and the last of the list. -/
theorem test_witness_UndefinedOpcodes : (start [0xD3]).fault = none ∧ (start [0xD3]).halt ≠ .on ∧
    ((start [0xD3]).ime && (start [0xD3]).pending) = false ∧ routeRead (start [0xD3]).regs.pc (start [0xD3]) = 0xD3 ∧
    routeRead (start [0xFD]).regs.pc (start [0xFD]) = 0xFD := by decide

/-- A fault recorded by an undefined opcode, and one by STOP. -/
theorem test_witness_OnlyUndefinedAndStopFault :
    (done (exec .illegalED State.reset)).map (·.fault) = some (some (.illegalOpcode 0xED 0x0100)) ∧
    (done (exec .stop State.reset)).map (·.fault) = some (some (.unmodelled 0x10 0x0100)) ∧ State.reset.fault = none := by
  decide

/-- Instructions of one, two and three bytes, with the master enable off and a request pending. -/
theorem test_witness_StepRunsDecodedInstruction :
    { start [0x3C] with ie := 0x01 }.pending = true ∧ (start [0x3C]).fault = none ∧ (start [0x3C]).halt = .off ∧
    ({ start [0x3C] with ie := 0x01 }.ime && { start [0x3C] with ie := 0x01 }.pending) = false ∧
    decode (bytesAt (start [0x3C]).regs.pc (start [0x3C])) = .ok (.incA, [0x00, 0x00]) ∧
    decode (bytesAt (start [0xCB, 0x37]).regs.pc (start [0xCB, 0x37])) = .ok (.swapA, [0x00]) ∧
    decode (bytesAt (start [0xC3, 0x50, 0x01]).regs.pc (start [0xC3, 0x50, 0x01])) = .ok (.jpA16 0x0150, []) := by decide

/-- The halt bug with a two-byte instruction: the opcode byte is its own operand. -/
theorem test_witness_HaltBugStep : { start [0x3E] with halt := .bug, ie := 0x01 }.fault = none ∧
    ({ start [0x3E] with halt := .bug, ie := 0x01 }.ime && { start [0x3E] with halt := .bug, ie := 0x01 }.pending) = false ∧
    decode [routeRead 0x0100 (start [0x3E]), routeRead 0x0100 (start [0x3E]).tick,
      routeRead 0x0101 (start [0x3E]).tick.tick] = .ok (.ldAD8 0x3E, [0x00]) := by decide

theorem test_witness_StepCompletes : State.reset.fault = none ∧
    { State.reset with fault := some (.unmodelled 0x10 0x0100) }.fault = some (.unmodelled 0x10 0x0100) := by decide

/-- Halted with nothing pending, and with a request pending and the master enable off. -/
theorem test_witness_HaltedSteps : { State.reset with halt := .on }.fault = none ∧
    { State.reset with halt := .on }.pending = false ∧ { State.reset with halt := .on, ie := 0x01 }.pending = true ∧
    { State.reset with halt := .on, ie := 0x01 }.ime = false := by decide

/-- The reset state with the master enable on and these requests enabled. -/
def asking (ie : Byte) (ifr : BitVec 5) : State :=
  { stackAt 0xDFF0 with ime := true, ie := ie, dev := { State.reset.dev with ifr := ifr } }

/-- The lowest source, 0, and the highest, 4, taken alone. -/
theorem test_witness_InterruptDispatch : (asking 0xFF 0x1F).fault = none ∧ (asking 0xFF 0x1F).ime = true ∧
    isLowestRequest 0 (asking 0xFF 0x1F) ∧ isLowestRequest 4 (asking 0x10 0x1F) := by
  refine ⟨rfl, rfl, ⟨by decide, by decide, by decide, by decide⟩, by decide, by decide, by decide, by decide⟩

/-- EI with the master enable off, and the state it leaves before a NOP. -/
theorem test_witness_EnableLatency :
    (done (finishStep (exec .ei State.reset))).map (fun u => (u.ime, u.imeState)) = some (false, .enableNow) ∧
    State.reset.ime = false ∧ State.reset.imeState = .stable ∧ State.reset.fault = none ∧
    decode (bytesAt 0x0100 { start [0x00] with imeState := .enableNow }) = .ok (.nop, [0x00, 0x00]) ∧
    (after { start [0x00] with imeState := .enableNow }).map (·.fault) = some none ∧ Instr.nop ≠ .di := by decide

theorem test_witness_OnlyDiEiRetiWriteIme : (done (exec .halt State.reset)).isSome = true ∧ Instr.halt ≠ .di ∧
    Instr.halt ≠ .ei ∧ Instr.halt ≠ .reti := by decide

/-- A step with a dispatch, one without, and one that wakes. -/
theorem test_witness_DocumentedCycles : (asking 0xFF 0x1F).fault = none ∧ (beginStep (asking 0xFF 0x1F)).halt ≠ .on ∧
    decode (fetchBytes (beginStep (asking 0xFF 0x1F))).1 = .ok (.nop, []) ∧ (beginStep (start [0x20, 0x05])).halt ≠ .on ∧
    decode (fetchBytes (beginStep (start [0x20, 0x05]))).1 = .ok (.jrNzE8 0x05, []) ∧
    (beginStep { start [0x3C] with halt := .on, ie := 0x01 }).halt ≠ .on := by decide

/-- The counter one cycle before a multiple of the period, so that the bit falls, and at a multiple, so that it does not. -/
theorem test_witness_TimerTick : (timed 0x03FC 4 0xFF 0x33).params.clocksPerCycle = 4 ∧
    (timed 0x03FC 4 0xFF 0x33).dev.timer.edgeOk ∧ (timed 0xFFFC 5 0xFF 0x33).dev.timer.edgeOk ∧
    (timed 0x0000 7 0x00 0x33).dev.timer.edgeOk := ⟨rfl, rfl, rfl, rfl⟩

/-- Every clock select, and TIMA at both ends. -/
theorem test_witness_TimerOverflow : (timed 0x0400 4 0xFF 0x33).params.clocksPerCycle = 4 ∧
    (timed 0x0400 4 0xFF 0x33).dev.timer.edgeOk ∧ (timed 0x0400 4 0xFF 0x33).dev.timer.tac.getLsbD 2 = true ∧
    (timed 0x0400 4 0xFF 0x33).dev.timer.counter.toNat % (4 * (timaPeriod 0 / 4)) = 0 ∧
    (timed 0xFFF0 5 0x00 0x33).dev.timer.counter.toNat % (4 * (timaPeriod 1 / 4)) = 0 ∧
    (timed 0x0040 6 0x80 0x33).dev.timer.counter.toNat % (4 * (timaPeriod 2 / 4)) = 0 ∧
    (timed 0x0100 7 0xFE 0x33).dev.timer.counter.toNat % (4 * (timaPeriod 3 / 4)) = 0 := ⟨rfl, rfl, by decide⟩

theorem test_witness_TimerRegisterWrites : (timed 0x0008 5 0xFF 0x33).dev.timer.edgeOk ∧
    (timed 0x0008 5 0xFF 0x33).dev.timer.signal = true ∧ (timed 0x0000 0 0xFF 0x33).dev.timer.edgeOk ∧
    (timed 0x0000 0 0xFF 0x33).dev.timer.signal = false := ⟨rfl, by decide, rfl, by decide⟩

/-- The masks of R50: unused bits read as 1 and ignore writes. -/
theorem test_register_masks : routeRead 0xFF0F (routeWrite 0xFF0F 0x0A State.reset) = 0xEA ∧
    routeRead 0xFFFF (routeWrite 0xFFFF 0xA5 State.reset) = 0xA5 ∧ routeRead 0xFF02 (routeWrite 0xFF02 0x81 State.reset) = 0xFF ∧
    routeRead 0xFF02 (routeWrite 0xFF02 0x80 State.reset) = 0xFE ∧ routeRead 0xFF07 (routeWrite 0xFF07 0x02 State.reset) = 0xFA ∧
    routeRead 0xFF41 (routeWrite 0xFF41 0x58 State.reset) = 0xDE ∧ routeRead 0xFF4A (routeWrite 0xFF4A 0x33 State.reset) = 0x33 := by
  decide

/-- The first and the last visible line at the start of mode 2. -/
theorem test_witness_VisibleLine : (displayed .oamSearch 0 80 0 9).params.clocksPerCycle = 4 ∧
    (displayed .oamSearch 0 80 0 9).dev.display.on = true ∧ (displayed .oamSearch 0 80 0 9).dev.display.ok ∧
    (displayed .oamSearch 143 80 0 9).dev.display.ok := by
  refine ⟨rfl, by decide, ?_, ?_⟩ <;> unfold Display.ok <;> decide

/-- A running display with one dot left in the last visible line, and in the last line of the frame. -/
theorem test_witness_FramePeriod : (displayed .hblank 143 1 0 9).params.clocksPerCycle = 4 ∧
    (displayed .hblank 143 1 0 9).dev.display.on = true ∧ (displayed .hblank 143 1 0 9).dev.display.ok ∧
    (displayed .vblank 153 456 0 9).dev.display.ok := by
  refine ⟨rfl, by decide, ?_, ?_⟩ <;> unfold Display.ok <;> decide

/-- The events of the statement, each about to happen, and a display that is off. -/
theorem test_witness_DisplayRequests : (displayed .hblank 143 4 2 9).dev.display.ok ∧
    (displayed .transfer 7 4 1 9).dev.display.ok ∧ (displayed .vblank 153 4 4 9).dev.display.ok ∧
    (displayed .hblank 8 4 8 9).dev.display.ok ∧ (displayed .hblank 8 4 8 9).dev.display.on = true ∧
    (displayed .hblank 8 4 8 9).params.clocksPerCycle = 4 ∧ (displayed .oamSearch 8 4 0 9).dev.display.ok ∧
    (routeWrite 0xFF40 0x11 (displayed .hblank 8 4 8 9)).dev.display.on = false := by
  refine ⟨?_, ?_, ?_, ?_, by decide, rfl, ?_, by decide⟩ <;> unfold Display.ok <;> decide

/-- Each renderer call where its rule puts it: a scanline at the end of mode 2, a swap on line 144, none at the end of mode 3. -/
theorem test_renderer_calls : (displayed .oamSearch 8 4 0 9).tick.dev.renderer = [.scanline 8] ∧
    (displayed .hblank 143 4 0 9).tick.dev.renderer = [.swap] ∧ (displayed .transfer 8 4 0 9).tick.dev.renderer = [] := by decide

/-- Every branch of the LCDC clause: unchanged, off, on with and without a match. -/
theorem test_witness_DisplayRegisterWrites : State.reset.dev.display.lcdc.getLsbD 7 = (0x93 : Byte).getLsbD 7 ∧
    (0x11 : Byte).getLsbD 7 = false ∧ (routeWrite 0xFF40 0x11 State.reset).dev.display.lcdc.getLsbD 7 = false ∧
    (routeWrite 0xFF40 0x91 (routeWrite 0xFF40 0x11 (displayed .hblank 3 4 8 0))).dev.ifr = 0x02 ∧
    (routeWrite 0xFF40 0x91 (routeWrite 0xFF40 0x11 (displayed .hblank 3 4 8 1))).dev.ifr = 0x00 := by decide

/-- The ends of VRAM and OAM, locked and open. -/
theorem test_witness_DisplayLocks : region 0x8000 = .vram ∧ region 0x9FFF = .vram ∧ region 0xA000 = .cartRam ∧
    region 0xFE00 = .oam ∧ region 0xFE9F = .oam ∧ region 0xFEA0 = .unusable ∧
    (displayed .transfer 0 4 0 9).vramLocked = true ∧ (displayed .hblank 0 4 0 9).vramLocked = false ∧
    (displayed .oamSearch 0 4 0 9).oamLocked = false := by decide

/-- The ends of work RAM, its mirror and high RAM, the last mirrored byte and the first that is not. -/
theorem test_witness_RamReadsBack : State.reset.memOk ∧ isOpenRam 0xC000 = true ∧ isOpenRam 0xDDFF = true ∧
    isOpenRam 0xDE00 = true ∧ isOpenRam 0xDFFF = true ∧ isOpenRam 0xE000 = true ∧ isOpenRam 0xFDFF = true ∧
    isOpenRam 0xFF80 = true ∧ isOpenRam 0xFFFE = true ∧ isOpenRam 0xFFFF = false ∧ isOpenRam 0xFE00 = false :=
  ⟨⟨by decide, by decide⟩, by decide⟩

/-- The ends of every range of the statement, and the neighbours that do answer. -/
theorem test_witness_NoStorageThere : region 0xFEA0 = .unusable ∧ region 0xFEFF = .unusable ∧ ioRegAt 0xFF03 = .unmapped ∧
    ioRegAt 0xFF08 = .unmapped ∧ ioRegAt 0xFF0E = .unmapped ∧ ioRegAt 0xFF0F = .ifReg ∧ ioRegAt 0xFF4B = .wx ∧
    ioRegAt 0xFF4C = .unmapped ∧ ioRegAt 0xFF7F = .unmapped ∧ region 0x7FFF = .rom ∧ region 0xA000 = .cartRam ∧
    region 0xBFFF = .cartRam ∧ State.reset.params.mapper = .romOnly ∧ State.reset.params.apu = .silent ∧
    (State.resetWith { mapper := .external, apu := .external } []).params.mapper = .external ∧
    (State.resetWith { mapper := .external, apu := .external } []).params.apu = .external ∧
    ioRegAt 0xFF10 = .audio ∧ ioRegAt 0xFF3F = .audio ∧ ioRegAt 0xFF40 = .lcdc := by decide

/-- The last page read in place and the first that is moved down. -/
theorem test_witness_OamDma : (start [0x3C]).memOk ∧ dmaSource 0xDF 159 = 0xDF9F ∧ dmaSource 0xE0 0 = 0xC000 ∧
    dmaSource 0x00 0 = 0x0000 := ⟨⟨by decide, by decide⟩, by decide⟩

/-- A key newly pressed in each group, bit 0 and bit 3, and one held already. -/
theorem test_witness_InputRegisters : (injectInput 0x8 0x0 State.reset).dev.ifr = 0x11 ∧
    (injectInput 0x0 0x1 State.reset).dev.ifr = 0x11 ∧
    (injectInput 0x1 0x0 { State.reset with joypad := { sel := 0, dirMask := 0x1, btnMask := 0 } }).dev.ifr = 0x01 := by decide

/-- An image in canonical form that is not empty. -/
theorem test_witness_InvAtReset : Memory.wf [(0x0100, 0x3C), (0xFFFE, 0x01)] ∧
    Memory.inStorage [(0x0100, 0x3C), (0xFFFE, 0x01)] := by decide

/-- States of the invariant that the machine does step from: running, halted, in the Bug state, about to enable. -/
theorem test_witness_StepKeepsInv : (start [0x3C]).inv ∧ { start [0x3C] with halt := .bug, ie := 0x01 }.inv ∧
    { start [0x3C] with halt := .on, imeState := .enableNow }.inv ∧ (after (start [0x3C])).isSome = true := by
  refine ⟨⟨⟨by decide, by decide⟩, ?_, rfl, ?_, ⟨by decide, by decide⟩, ?_⟩,
    ⟨⟨by decide, by decide⟩, ?_, rfl, ?_, ⟨by decide, by decide⟩, ?_⟩,
    ⟨⟨by decide, by decide⟩, ?_, rfl, ?_, ⟨by decide, by decide⟩, ?_⟩, by decide⟩
  all_goals first | (unfold State.flagsOk; decide) | (unfold Display.ok; decide) | (unfold State.haltOk; decide)

theorem test_witness_StepKeepsRom : (after (start [0x77])).isSome = true := by decide

theorem test_witness_HostKeepsInv : Memory.wf [(0x8000, 0x01), (0xFF80, 0xFF)] ∧
    Memory.inStorage [(0x8000, 0x01), (0xFF80, 0xFF)] := by decide

/-- A budget that one step overspends, the 3 cycles of a jump against 1; a budget already spent; and a run of 4 cycles whose first
step records a fault after its one cycle. -/
theorem test_witness_RunSpendsItsBudget : 0 < State.reset.budget + ((1 : Nat) : Int) ∧
    (runFor 1 (start [0x18, 0xFE])).budget = -2 ∧ State.reset.budget + ((0 : Nat) : Int) ≤ 0 ∧
    (runFor 4 (start [0xD3])).budget = 3 ∧ (runFor 4 (start [0xD3])).fault = some (.illegalOpcode 0xD3 0x0100) := by
  decide +kernel

end Sys2Proof.Machine
end

/-! ### The invariant of a step boundary, and what holds between the parts of a step -/

namespace Sys2Proof.Machine

/-- The part of the invariant that holds at every point of a step, not only at its boundary: memory, F, the edge detector and the
display (R23, R41, R45, R451). -/
def State.storedOk (s : State) : Prop := s.memOk ∧ s.flagsOk ∧ s.dev.timer.edgeOk ∧ s.dev.display.ok

/-- A pending enable, of either stage, stands only while IME = 0 (R406): what the latency part of the invariant is within a step. -/
def State.enableWaits (s : State) : Prop := s.imeState ≠ .stable → s.ime = false

theorem State.inv_iff (s : State) : s.inv ↔ s.storedOk ∧ s.latencyOk ∧ s.haltOk := by
  simp only [State.inv, State.storedOk, and_assoc]

theorem State.latencyOk_iff (s : State) : s.latencyOk ↔ s.imeState ≠ .enableRequested ∧ s.enableWaits := by
  unfold State.latencyOk State.enableWaits
  cases s.imeState <;> simp

theorem latencyOk_of_keepsIme {s t : State} (k : keepsIme s t) (h : s.latencyOk) : t.latencyOk := by
  unfold State.latencyOk
  rw [k.1, k.2]
  exact h

theorem haltOk_of_ne_bug {s : State} (h : s.halt ≠ .bug) : s.haltOk := fun hb => absurd hb h

/-- Register updates, ticks and bus writes keep what holds at every point of a step. -/
theorem Evolves.storedOk {s t : State} (h : Evolves s t) (hs : s.storedOk) : t.storedOk := by
  obtain ⟨hmem, hflags, hedge, hdisplay⟩ := hs
  exact ⟨h.memOk hmem, h.flagsOk hflags, h.edgeOk hedge, h.displayOk hdisplay⟩

/-- Only a system row writes the halt state. -/
theorem Evolves.halt_eq {s t : State} (h : Evolves s t) : t.halt = s.halt := h.keepsControl.1

/-- Only a system row records a fault. -/
theorem Evolves.fault_eq {s t : State} (h : Evolves s t) : t.fault = s.fault := h.keepsControl.2.1

/-! ### The interrupt check -/

theorem beginStep_storedOk {s : State} (h : s.storedOk) : (beginStep s).storedOk := by
  cases hp : s.pending with
  | false => rw [beginStep_idle s hp]; exact h
  | true =>
    cases hi : s.ime with
    | false => rw [beginStep_wakes s hp hi]; exact h
    | true => rw [beginStep_taken s hp hi]; exact (dispatch_evolves _).storedOk h

/-- A dispatch leaves the latency at rest (R425); otherwise the check does not touch it. -/
theorem beginStep_latencyOk {s : State} (h : s.latencyOk) : (beginStep s).latencyOk := by
  cases hp : s.pending with
  | false => rw [beginStep_idle s hp]; exact h
  | true =>
    cases hi : s.ime with
    | false => rw [beginStep_wakes s hp hi]; exact h
    | true =>
      rw [beginStep_taken s hp hi]
      exact latencyOk_of_keepsIme (dispatch_evolves _).keepsIme ⟨nofun, fun _ => rfl⟩

/-! ### The fetch -/

theorem fetchBytes_storedOk {s : State} (h : s.storedOk) : (fetchBytes s).2.storedOk := (fetch_evolves s).storedOk h

theorem fetchBytes_latencyOk {s : State} (h : s.latencyOk) : (fetchBytes s).2.latencyOk :=
  latencyOk_of_keepsIme (fetch_evolves s).keepsIme h

theorem fetchBytes_fault (s : State) : (fetchBytes s).2.fault = s.fault := (fetch_evolves s).fault_eq

/-- The fetch leaves the Bug state (R150). -/
theorem fetchBytes_halt_ne_bug (s : State) : (fetchBytes s).2.halt ≠ .bug := by
  rw [(fetch_evolves s).halt_eq]
  dsimp only
  split
  · exact nofun
  · assumption

/-! ### The instruction -/

theorem Effect.storedOk {i : Instr} {s t : State} (h : Effect i s t) (hs : s.storedOk) : t.storedOk := by
  cases h with
  | evolves he => exact he.storedOk hs
  | reti _ he => exact he.storedOk hs
  | di | ei | halt | fault => exact hs

/-- Only HALT enters the Bug state, and it does with a request pending (R331). -/
theorem Effect.haltOk {i : Instr} {s t : State} (h : Effect i s t) (hs : s.halt ≠ .bug) : t.haltOk := by
  cases h with
  | evolves he => exact haltOk_of_ne_bug (by rw [he.halt_eq]; exact hs)
  | reti _ he => exact haltOk_of_ne_bug (by show State.halt _ ≠ _; rw [he.halt_eq]; exact hs)
  | di | ei | fault => exact haltOk_of_ne_bug hs
  | halt =>
    intro hb
    show s.pending = true
    cases hp : s.pending with
    | true => rfl
    | false => simp [hp] at hb

/-- Only EI requests an enable, and it does with IME = 0 (R410). -/
theorem Effect.enableWaits {i : Instr} {s t : State} (h : Effect i s t) (hs : s.latencyOk) : t.enableWaits := by
  have waits := ((State.latencyOk_iff s).1 hs).2
  cases h with
  | evolves he =>
    obtain ⟨hime, hstate⟩ := he.keepsIme
    unfold State.enableWaits
    rw [hime, hstate]
    exact waits
  | di => exact fun _ => rfl
  | ei _ hi => exact fun _ => hi
  | reti => exact fun hne => absurd rfl hne
  | halt | fault => exact waits

/-- An instruction that faults leaves the latency as it was. -/
theorem Effect.latencyOk_of_fault {i : Instr} {s t : State} (h : Effect i s t) (hs : s.latencyOk) (hf : s.fault = none)
    (ht : t.fault ≠ none) : t.latencyOk := by
  cases h with
  | fault => exact hs
  | evolves he => exact absurd (he.fault_eq.trans hf) ht
  | reti _ he => exact absurd (he.fault_eq.trans hf) ht
  | di | ei | halt => exact absurd hf ht

/-! ### The latency advance -/

/-- The advance changes IME and the latency alone (R406). -/
theorem advanceIme_eq (s : State) :
    advanceIme s = { s with ime := (advanceIme s).ime, imeState := (advanceIme s).imeState } := by
  unfold advanceIme
  cases s.imeState <;> rfl

theorem advanceIme_latencyOk {s : State} (h : s.enableWaits) : (advanceIme s).latencyOk := by
  unfold State.enableWaits at h
  unfold advanceIme State.latencyOk
  cases hs : s.imeState <;> simp [hs] at h ⊢
  exact h

/-- The end of a step: what a meaning leaves, advanced unless it faulted, meets the invariant. -/
theorem finish_inv {t : State} (hs : t.storedOk) (hh : t.haltOk) (hw : t.enableWaits)
    (hf : t.fault ≠ none → t.latencyOk) : (if t.fault = none then advanceIme t else t).inv := by
  rw [State.inv_iff]
  by_cases h : t.fault = none
  · rw [if_pos h]
    refine ⟨?_, advanceIme_latencyOk hw, ?_⟩
    · rw [advanceIme_eq]; exact hs
    · rw [advanceIme_eq]; exact hh
  · rw [if_neg h]
    exact ⟨hs, hf h, hh⟩

/-! ### The step -/

/-- A step that fetches and executes ends in the invariant, from what the interrupt check leaves. -/
theorem fetchExecute_inv {s t : State} (hs : s.storedOk) (hl : s.latencyOk) (hf : s.fault = none)
    (h : fetchExecute s = .next t) : t.inv := by
  obtain ⟨i, u, -, hexec, heq⟩ := fetchExecute_eq s
  have effect : Effect i (fetchBytes s).2 u := exec_effect hexec
  have latency := fetchBytes_latencyOk hl
  rw [heq] at h
  cases h
  exact finish_inv (effect.storedOk (fetchBytes_storedOk hs)) (effect.haltOk (fetchBytes_halt_ne_bug s))
    (effect.enableWaits latency) (effect.latencyOk_of_fault latency ((fetchBytes_fault s).trans hf))

/-- A halted step is one tick. -/
theorem tick_inv_of_halted {s : State} (hs : s.storedOk) (hl : s.latencyOk) (hh : s.halt = .on) : s.tick.inv := by
  refine (State.inv_iff _).2 ⟨Evolves.refl.tick.storedOk hs, hl, haltOk_of_ne_bug ?_⟩
  rw [tick_halt, hh]
  exact nofun

theorem fault_eq_none_of_step {s t : State} (h : step s = .next t) : s.fault = none := by
  cases hs : s.fault with
  | none => rfl
  | some r => rw [step_faulted s r hs] at h; cases h

/-- Settles O57: each part of the step keeps its part of the invariant, and the latency advance restores the boundary form. -/
theorem stepKeepsInv : Obligations.StepKeepsInv := by
  intro s t hinv hstep
  obtain ⟨hs, hl, -⟩ := (State.inv_iff s).1 hinv
  have hf := fault_eq_none_of_step hstep
  have begins := beginStep_storedOk hs
  have latency := beginStep_latencyOk hl
  by_cases hh : (beginStep s).halt = .on
  · rw [step_halted s hf hh] at hstep
    cases hstep
    exact tick_inv_of_halted begins latency hh
  · rw [step_running s hf hh] at hstep
    exact fetchExecute_inv begins latency ((beginStep_fault s).trans hf) hstep

end Sys2Proof.Machine

/-! ### The timer, interrupt and serial registers -/

namespace Sys2Proof.Machine

/-- A cleared counter has no selected bit (R41). -/
theorem signal_of_counter_zero {t : Timer} (h : t.counter = 0) : t.signal = false := by simp [Timer.signal, h]

/-- A DIV write in full (R443): with the detector right, the cleared counter counts exactly where the enabled, selected bit was 1. -/
theorem writeDiv_eq (d : Devices) (h : d.timer.edgeOk) : d.writeDiv = { d with
    timer := { d.timer with
      counter := 0, edge := false
      tima := if d.timer.signal then (if d.timer.tima = 0xFF then d.timer.tma else d.timer.tima + 1) else d.timer.tima }
    ifr := if d.timer.signal && d.timer.tima == 0xFF then d.ifr ||| 0b00100 else d.ifr } := by
  have edge : d.timer.edge = d.timer.signal := h
  unfold Devices.writeDiv
  rw [Devices.mk.injEq]
  refine ⟨?_, timerEdge_display _ _, ?_, timerEdge_renderer _ _⟩
  · rw [timerEdge_timer]
    simp [signal_of_counter_zero, edge]
  · rw [timerEdge_ifr]
    simp [signal_of_counter_zero, edge]

/-- A TAC write in full (R444): three bits are stored, and TIMA and IF are left alone. -/
theorem writeTac_eq (v : Byte) (d : Devices) : d.writeTac v = { d with
    timer := { d.timer with
      tac := v.extractLsb' 0 3, edge := Timer.signal { d.timer with tac := v.extractLsb' 0 3 } } } := by
  unfold Devices.writeTac
  rw [Devices.mk.injEq]
  exact ⟨timerEdge_timer _ _, timerEdge_display _ _, timerEdge_ifr _ _, timerEdge_renderer _ _⟩

/-- The high byte of a word as a number. -/
theorem toNat_extract_high (w : Word) : (w.extractLsb' 8 8 : Byte).toNat = w.toNat / 256 := by
  have := w.isLt
  rw [BitVec.extractLsb'_toNat, Nat.shiftRight_eq_div_pow]
  omega

/-- TAC reads with its five unused bits set (R50). -/
theorem tac_read_eq : ∀ x : BitVec 3, (0b11111#5 ++ x : Byte) = 0xF8 ||| x.setWidth 8 := by decide

/-- IF reads with its three unused bits set (R50). -/
theorem if_read_eq : ∀ x : BitVec 5, (0b111#3 ++ x : Byte) = 0xE0 ||| x.setWidth 8 := by decide

/-- SC reads with its six unused bits set (R50). -/
theorem sc_read_eq : ∀ x y : Bool, (BitVec.ofBool x ++ 0b111111#6 ++ BitVec.ofBool y : Byte) =
    0x7E ||| (if x then 0x80 else 0) ||| (if y then 0x01 else 0) := by decide

/-- Settles O45: each register's clause is its row of the register map (R50), at the address the map gives it. -/
theorem timerRegisterWrites : Obligations.TimerRegisterWrites := by
  intro v s t counts
  refine ⟨?div, ?tac, ?tima, ?tma, ?ifReg, ?ie, ?sb, ?sc, ?readDiv, ?readTima, ?readTma, ?readTac, ?readIf, ?readIe, ?readSb, ?readSc,
    fun _ => ⟨rfl, rfl⟩⟩
  case div =>
    intro h
    rw [routeWrite_io (r := .div) v s (by decide) (by decide), writeIoReg, writeDiv_eq s.dev h]
  case tac =>
    refine ⟨Timer.signal { t with tac := v.extractLsb' 0 3 }, ?_, rfl⟩
    rw [routeWrite_io (r := .tac) v s (by decide) (by decide), writeIoReg, writeTac_eq]
  case tima => exact routeWrite_io (r := .tima) v s (by decide) (by decide)
  case tma => exact routeWrite_io (r := .tma) v s (by decide) (by decide)
  case ifReg => exact routeWrite_io (r := .ifReg) v s (by decide) (by decide)
  case ie => rfl
  case sb => exact routeWrite_io (r := .sb) v s (by decide) (by decide)
  case sc => exact routeWrite_io (r := .sc) v s (by decide) (by decide)
  case readDiv => rw [routeRead_io (r := .div) s (by decide) (by decide)]; exact toNat_extract_high _
  case readTima => exact routeRead_io (r := .tima) s (by decide) (by decide)
  case readTma => exact routeRead_io (r := .tma) s (by decide) (by decide)
  case readTac => rw [routeRead_io (r := .tac) s (by decide) (by decide)]; exact tac_read_eq _
  case readIf => rw [routeRead_io (r := .ifReg) s (by decide) (by decide)]; exact if_read_eq _
  case readIe => rfl
  case readSb => exact routeRead_io (r := .sb) s (by decide) (by decide)
  case readSc => rw [routeRead_io (r := .sc) s (by decide) (by decide)]; exact sc_read_eq _ _

/-! ### Addresses that are not the block's storage -/

/-- The addresses of the page FF00 that no register answers (R51). -/
theorem ioReg_unmapped : ∀ k < 0x80, k = 3 ∨ (0x08 ≤ k ∧ k < 0x0F) ∨ 0x4C ≤ k → ioReg k = .unmapped := by decide

/-- The audio range (R50). -/
theorem ioReg_audio : ∀ k < 0x40, 0x10 ≤ k → ioReg k = .audio := by decide

/-- The unusable range reads as 0xFF (R110). -/
theorem routeRead_unusable {a : Word} (s : State) (h : region a = .unusable) : routeRead a s = 0xFF := by
  unfold routeRead routeReadWith
  rw [h]

/-- The unusable range ignores writes (R110). -/
theorem routeWrite_unusable {a : Word} (v : Byte) (s : State) (h : region a = .unusable) : routeWrite a v s = s := by
  unfold routeWrite
  rw [h]

/-- The page of the peripheral registers (R110). -/
theorem region_io {a : Word} (hlo : 0xFF00 ≤ a.toNat) (hhi : a.toNat < 0xFF80) : region a = .io :=
  region_of_bounds a .io hlo hhi

/-- The cartridge's two ranges (R110). -/
theorem region_cartridge {a : Word} (h : a.toNat < 0x8000 ∨ (0xA000 ≤ a.toNat ∧ a.toNat < 0xC000)) :
    region a = .rom ∨ region a = .cartRam :=
  h.imp (region_of_bounds a .rom (Nat.zero_le _)) fun hb => region_of_bounds a .cartRam hb.1 hb.2

/-- A read of the cartridge is the mapper's (R111). -/
theorem routeRead_cartridge {a : Word} (s : State) (h : region a = .rom ∨ region a = .cartRam) :
    routeRead a s = mapperRead a s := by
  unfold routeRead routeReadWith
  rcases h with h | h <;> rw [h]

/-- A write to the cartridge is the mapper's (R111). -/
theorem routeWrite_cartridge {a : Word} (v : Byte) (s : State) (h : region a = .rom ∨ region a = .cartRam) :
    routeWrite a v s = mapperWrite a v s := by
  unfold routeWrite
  rcases h with h | h <;> rw [h]

theorem mapperWrite_mem (a : Word) (v : Byte) (s : State) : (mapperWrite a v s).mem = s.mem := by
  unfold mapperWrite
  split <;> rfl

/-- The ROM-only default ignores writes and answers from its image (R111, log entry 14). -/
theorem mapper_romOnly (a : Word) (v : Byte) (s : State) (h : s.params.mapper = .romOnly) :
    mapperWrite a v s = s ∧ mapperRead a s = if a.toNat < 0x8000 then s.mem.read a.toNat else 0xFF := by
  unfold mapperWrite mapperRead
  rw [h]
  exact ⟨rfl, rfl⟩

/-- An external mapper notes the write and answers from the writes it has received (log entry 5). -/
theorem mapper_external (a : Word) (v : Byte) (s : State) (h : s.params.mapper = .external) :
    mapperWrite a v s = { s with mapperLog := (a.toNat, v) :: s.mapperLog } ∧
      mapperRead a s = Config.mapperRead s.mapperLog a := by
  unfold mapperWrite mapperRead
  rw [h]
  exact ⟨rfl, rfl⟩

/-- The silent default ignores writes and reads 0xFF (R8). -/
theorem apu_silent (a : Word) (v : Byte) (s : State) (h : s.params.apu = .silent) :
    apuWrite a v s = s ∧ apuRead a s = 0xFF := by
  unfold apuWrite apuRead
  rw [h]
  exact ⟨rfl, rfl⟩

/-- An external audio unit notes the write and answers from the writes it has received (log entry 5). -/
theorem apu_external (a : Word) (v : Byte) (s : State) (h : s.params.apu = .external) :
    apuWrite a v s = { s with apuLog := (a.toNat, v) :: s.apuLog } ∧ apuRead a s = Config.apuRead s.apuLog a := by
  unfold apuWrite apuRead
  rw [h]
  exact ⟨rfl, rfl⟩

/-- Settles O52: each range is a region or a register of the map, and its answer that of the unmapped row, LY, the mapper or the APU. -/
theorem noStorageThere : Obligations.NoStorageThere := by
  intro a v s n unmapped
  refine ⟨?unmapped, ?ly, ?cartridge, ?audio⟩
  case unmapped =>
    rintro (⟨hlo, hhi⟩ | h)
    · have hr : region a = .unusable := region_of_bounds a .unusable hlo hhi
      exact ⟨routeRead_unusable s hr, routeWrite_unusable v s hr⟩
    · have hr : region a = .io := region_io (by omega) (by omega)
      have hk : ioRegAt a = .unmapped := ioReg_unmapped _ (by omega) (by omega)
      exact ⟨routeRead_io s hr hk, routeWrite_io v s hr hk⟩
  case ly =>
    exact ⟨routeWrite_io (r := .ly) v s (by decide) (by decide), routeRead_io (r := .ly) s (by decide) (by decide)⟩
  case cartridge =>
    intro h
    have hr := region_cartridge h
    rw [routeWrite_cartridge v s hr, routeRead_cartridge s hr]
    exact ⟨mapperWrite_mem a v s, mapper_romOnly a v s, mapper_external a v s⟩
  case audio =>
    intro hlo hhi
    have hr : region a = .io := region_io (by omega) (by omega)
    have hk : ioRegAt a = .audio := ioReg_audio _ (by omega) (by omega)
    rw [routeWrite_io v s hr hk, routeRead_io s hr hk]
    exact ⟨apu_silent a v s, apu_external a v s⟩

/-! ### OAM DMA -/

/-- Every source address of the copy lies below the mirror (R131). -/
theorem dmaSource_lt (v : Byte) (n : Nat) (hn : n < 160) : (dmaSource v n).toNat < 0xE000 := by
  have := v.isLt
  rw [dmaSource_toNat v n hn]
  split <;> omega

/-- The regions below the mirror (R110). -/
theorem region_below_echo {a : Word} (h : a.toNat < 0xE000) :
    region a = .rom ∨ region a = .vram ∨ region a = .cartRam ∨ region a = .wram := by
  rw [region_toNat, if_pos h]
  split_ifs <;> simp

/-- A source byte depends on its own byte of memory and on the mapper alone. -/
theorem dmaRead_congr {s t : State} (v : Byte) (n : Nat) (hn : n < 160)
    (hm : t.mem.read (dmaSource v n).toNat = s.mem.read (dmaSource v n).toNat)
    (hl : t.mapperLog = s.mapperLog) (hp : t.params = s.params) : dmaRead v n t = dmaRead v n s := by
  unfold dmaRead routeReadWith
  rcases region_below_echo (dmaSource_lt v n hn) with hr | hr | hr | hr <;> rw [hr]
  · simp only [mapperRead, hm, hl, hp]
  · simp only [hm, Bool.false_and]
  · simp only [mapperRead, hm, hl, hp]
  · exact hm

/-- A copy changes no byte that the copy reads. -/
theorem dmaRead_dmaCopy (v : Byte) (n m : Nat) (s : State) (hn : n < 160) : dmaRead v n (dmaCopy v m s) = dmaRead v n s := by
  have hlt := dmaSource_lt v n hn
  refine dmaRead_congr v n hn (dmaCopy_mem_ne v m s _ fun i _ => by omega) ?_ ?_ <;> rw [dmaCopy_eq v m s]

/-- The bytes of OAM after a copy of `m` bytes (R130). -/
theorem dmaCopy_mem_same (v : Byte) (m n : Nat) (s : State) (hm : m ≤ 160) (hn : n < m) (hs : s.memOk) :
    (dmaCopy v m s).mem.read (0xFE00 + n) = dmaRead v n s := by
  induction m with
  | zero => omega
  | succ m ih =>
    rw [dmaCopy]
    dsimp only
    by_cases h : n = m
    · subst h
      rw [Memory.read_write_same _ _ _ (dmaCopy_memOk v n s (by omega) hs).1, dmaRead_dmaCopy v n n s (by omega)]
    · rw [Memory.read_write_ne _ _ _ _ (by omega)]
      exact ih (by omega) (by omega)

/-- The source address as the spec gives it (R130, R131). -/
theorem dmaSource_eq (v : Byte) (n : Nat) (hn : n < 160) :
    dmaSource v n = BitVec.ofNat 16 (256 * (if v.toNat < 0xE0 then v.toNat else v.toNat - 0x20) + n) := by
  rw [← dmaSource_toNat v n hn, BitVec.ofNat_toNat, BitVec.setWidth_eq]

/-- A write to FF46 changes the register and memory alone (R130). -/
theorem writeDma_changes (v : Byte) (s : State) : writeDma v s = { s with dma := v, mem := (writeDma v s).mem } := by
  obtain ⟨m, hm⟩ := writeDma_eq v s
  rw [hm]

/-- The byte of OAM that a write to FF46 leaves is the byte its source held (R130). -/
theorem writeDma_mem_same (v : Byte) (n : Nat) (s : State) (hn : n < 160) (hs : s.memOk) :
    (writeDma v s).mem.read (0xFE00 + n) = dmaRead v n s := by
  have stored : State.memOk { s with dma := v } := hs
  unfold writeDma
  rw [dmaCopy_mem_same v 160 n _ (Nat.le_refl _) hn stored]
  exact dmaRead_congr v n hn rfl rfl rfl

/-- Settles O53: by induction on the bytes copied, none of which the copy reads later. -/
theorem oamDma : Obligations.OamDma := by
  intro v s hs t page
  have ht : t = writeDma v s := routeWrite_io (r := .dma) v s (by decide) (by decide)
  refine ⟨routeRead_io (r := .dma) s (by decide) (by decide), ?_, routeWrite_keepsMem 0xFF46 v s, fun n hn => ?_⟩
  · rw [ht]; exact writeDma_changes v s
  · rw [ht, ← dmaSource_eq v n hn]
    exact writeDma_mem_same v n s hn hs

/-! ### The input registers -/

/-- A key of P1 reads 0 while it is pressed in a selected group (R80). -/
theorem getLsbD_keys (j : Joypad) (k : Nat) (hk : k < 4) : j.keys.getLsbD k =
    !((!j.sel.getLsbD 0 && j.dirMask.getLsbD k) || (!j.sel.getLsbD 1 && j.btnMask.getLsbD k)) := by
  unfold Joypad.keys
  rw [BitVec.getLsbD_not, BitVec.getLsbD_or]
  cases j.sel.getLsbD 0 <;> cases j.sel.getLsbD 1 <;> simp [hk]

/-- A mask gains a key exactly where some bit goes from 0 to 1 (R460). -/
theorem gained_iff (old new : BitVec 4) :
    (new &&& ~~~old != 0) = true ↔ ∃ k, k < 4 ∧ old.getLsbD k = false ∧ new.getLsbD k = true := by
  revert old new; decide

/-- A key newly pressed in a selected group (R460). -/
def newlyPressed (dir btn : BitVec 4) (j : Joypad) (k : Nat) : Prop := k < 4 ∧
  ((j.sel.getLsbD 0 = false ∧ j.dirMask.getLsbD k = false ∧ dir.getLsbD k = true) ∨
   (j.sel.getLsbD 1 = false ∧ j.btnMask.getLsbD k = false ∧ btn.getLsbD k = true))

/-- The condition on which an injection requests its interrupt (R460). -/
theorem newlyPressed_iff (dir btn : BitVec 4) (j : Joypad) : (∃ k, newlyPressed dir btn j k) ↔
    ((!j.sel.getLsbD 0 && dir &&& ~~~j.dirMask != 0) || (!j.sel.getLsbD 1 && btn &&& ~~~j.btnMask != 0)) = true := by
  simp only [Bool.or_eq_true, Bool.and_eq_true, Bool.not_eq_true', gained_iff, newlyPressed]
  constructor
  · rintro ⟨k, hk, ⟨hsel, hkey⟩ | ⟨hsel, hkey⟩⟩
    · exact .inl ⟨hsel, k, hk, hkey⟩
    · exact .inr ⟨hsel, k, hk, hkey⟩
  · rintro (⟨hsel, k, hk, hkey⟩ | ⟨hsel, k, hk, hkey⟩)
    · exact ⟨k, hk, .inl ⟨hsel, hkey⟩⟩
    · exact ⟨k, hk, .inr ⟨hsel, hkey⟩⟩

/-- An injection with a newly pressed key stores the masks and requests interrupt 4 (R460, R481). -/
theorem injectInput_of_newlyPressed {dir btn : BitVec 4} {s : State} (h : ∃ k, newlyPressed dir btn s.joypad k) :
    injectInput dir btn s = { s with
      joypad := { s.joypad with dirMask := dir, btnMask := btn }, dev := { s.dev with ifr := s.dev.ifr ||| 0b10000 } } := by
  unfold injectInput
  rw [if_pos ((newlyPressed_iff dir btn s.joypad).1 h)]
  rfl

/-- An injection without one only stores the masks (R460, R481). -/
theorem injectInput_of_not_newlyPressed {dir btn : BitVec 4} {s : State} (h : ¬ ∃ k, newlyPressed dir btn s.joypad k) :
    injectInput dir btn s = { s with joypad := { s.joypad with dirMask := dir, btnMask := btn } } := by
  unfold injectInput
  rw [if_neg fun hp => h ((newlyPressed_iff dir btn s.joypad).2 hp)]

/-- Settles O54: bit by bit for P1, and by the two cases of an injection. -/
theorem inputRegisters : Obligations.InputRegisters := by
  intro v dir btn s j newly
  have hread : routeRead 0xFF00 s = 0b11#2 ++ j.sel ++ j.keys := routeRead_io (r := .p1) s (by decide) (by decide)
  refine ⟨routeWrite_io (r := .p1) v s (by decide) (by decide), fun k hk => ?_, ?_, ?_⟩
  · rw [hread, ← getLsbD_keys j k hk, BitVec.getLsbD_append, if_pos hk]
  · rw [hread]
    generalize j.sel = x, j.keys = y
    revert x y; decide
  · by_cases h : ∃ k, newlyPressed dir btn j k
    · exact ⟨_, injectInput_of_newlyPressed h, fun _ => rfl, fun hn => absurd h hn⟩
    · exact ⟨_, injectInput_of_not_newlyPressed h, fun hp => absurd hp h, fun _ => rfl⟩

/-! ### Reset -/

/-- A register other than the audio range's reads the same after every reset: its answer lies in the block. -/
theorem routeRead_resetWith (a : Word) (p : Params) (image : Memory)
    (h : (region a = .io ∧ ioRegAt a ≠ .audio) ∨ region a = .ie) :
    routeRead a (State.resetWith p image) = routeRead a State.reset := by
  unfold routeRead routeReadWith ioRead
  rcases h with ⟨hr, hk⟩ | hr
  · rw [hr]
    cases hreg : ioRegAt a with
    | audio => exact absurd hreg hk
    | _ => rfl
  · rw [hr]
    rfl

/-- Settles O55: the state by definition, and the reset column by its rows in the default reset, from which no other reset differs. -/
theorem resetValues : Obligations.ResetValues := by
  intro p image s
  refine ⟨⟨rfl, rfl, rfl, rfl, rfl, rfl, rfl, rfl, rfl, rfl, rfl, rfl, rfl, rfl, rfl, rfl⟩, fun x hx => ?_⟩
  have row : ((region x.1 = .io ∧ ioRegAt x.1 ≠ .audio) ∨ region x.1 = .ie) ∧ routeRead x.1 State.reset = x.2 := by
    fin_cases hx <;> decide
  exact (routeRead_resetWith x.1 p image row.1).trans row.2

end Sys2Proof.Machine

/-! ### What no step changes -/

namespace Sys2Proof.Machine

/-- `t` has the cartridge's image, the parameters and the budget of `s` (R111, R8, R480). -/
def keepsFixed (s t : State) : Prop :=
  (∀ k, k < 0x8000 → t.mem.read k = s.mem.read k) ∧ t.params = s.params ∧ t.budget = s.budget

theorem keepsFixed_refl (s : State) : keepsFixed s s := ⟨fun _ _ => rfl, rfl, rfl⟩

theorem keepsFixed.trans {s t u : State} (h1 : keepsFixed s t) (h2 : keepsFixed t u) : keepsFixed s u := by
  obtain ⟨rom1, params1, budget1⟩ := h1
  obtain ⟨rom2, params2, budget2⟩ := h2
  exact ⟨fun k hk => (rom2 k hk).trans (rom1 k hk), params2.trans params1, budget2.trans budget1⟩

/-- Register updates, ticks and bus writes do not reach it. -/
theorem Evolves.keepsFixed {s t : State} (h : Evolves s t) : keepsFixed s t := by
  obtain ⟨-, -, budget, params, -⟩ := h.keepsControl
  exact ⟨h.rom, params, budget⟩

/-- The system rows write none of it. -/
theorem Effect.keepsFixed {i : Instr} {s t : State} (h : Effect i s t) : keepsFixed s t := by
  cases h with
  | evolves he => exact he.keepsFixed
  | reti _ he => exact he.keepsFixed
  | di | ei | halt | fault => exact keepsFixed_refl s

theorem beginStep_keepsFixed (s : State) : keepsFixed s (beginStep s) := by
  cases hp : s.pending with
  | false => rw [beginStep_idle s hp]; exact keepsFixed_refl s
  | true =>
    cases hi : s.ime with
    | false => rw [beginStep_wakes s hp hi]; exact keepsFixed_refl s
    | true => rw [beginStep_taken s hp hi]; exact (dispatch_evolves _).keepsFixed

theorem fetchBytes_keepsFixed (s : State) : keepsFixed s (fetchBytes s).2 := (fetch_evolves s).keepsFixed

theorem advanceIme_keepsFixed (s : State) : keepsFixed s (advanceIme s) := by
  rw [advanceIme_eq]
  exact keepsFixed_refl s

theorem fetchExecute_keepsFixed {s t : State} (h : fetchExecute s = .next t) : keepsFixed s t := by
  obtain ⟨i, u, -, hexec, heq⟩ := fetchExecute_eq s
  have executed : keepsFixed s u := (fetchBytes_keepsFixed s).trans (exec_effect hexec).keepsFixed
  rw [heq] at h
  cases h
  split
  · exact executed.trans (advanceIme_keepsFixed u)
  · exact executed

/-- Settles O58: by the parts of the step, the interrupt check, then the halted tick or the fetch, the instruction and the advance. -/
theorem stepKeepsRom : Obligations.StepKeepsRom := by
  intro s t hstep
  have hf := fault_eq_none_of_step hstep
  refine (beginStep_keepsFixed s).trans ?_
  by_cases hh : (beginStep s).halt = .on
  · rw [step_halted s hf hh] at hstep
    cases hstep
    exact Evolves.refl.tick.keepsFixed
  · rw [step_running s hf hh] at hstep
    exact fetchExecute_keepsFixed hstep

/-! ### Memory behind a display lock -/

/-- VRAM reads as 0xFF while it is locked, else from memory (R112). -/
theorem routeRead_vram {a : Word} (s : State) (h : region a = .vram) :
    routeRead a s = if s.vramLocked then 0xFF else s.mem.read a.toNat := by
  unfold routeRead routeReadWith
  rw [h]
  rfl

/-- VRAM ignores writes while it is locked, else stores them (R112). -/
theorem routeWrite_vram {a : Word} (v : Byte) (s : State) (h : region a = .vram) :
    routeWrite a v s = if s.vramLocked then s else { s with mem := s.mem.write a.toNat v } := by
  unfold routeWrite
  rw [h]

/-- OAM reads as 0xFF while it is locked, else from memory (R114). -/
theorem routeRead_oam {a : Word} (s : State) (h : region a = .oam) :
    routeRead a s = if s.oamLocked then 0xFF else s.mem.read a.toNat := by
  unfold routeRead routeReadWith
  rw [h]
  rfl

/-- OAM ignores writes while it is locked, else stores them (R114). -/
theorem routeWrite_oam {a : Word} (v : Byte) (s : State) (h : region a = .oam) :
    routeWrite a v s = if s.oamLocked then s else { s with mem := s.mem.write a.toNat v } := by
  unfold routeWrite
  rw [h]

/-- Settles O50: the two ranges are the regions VRAM and OAM of the map, and the locks are R115's by definition. -/
theorem displayLocks : Obligations.DisplayLocks := by
  intro a v s d vramLocked oamLocked guarded
  refine ⟨fun hlo hhi => ?vram, fun hlo hhi => ?oam⟩
  case vram =>
    have hr : region a = .vram := region_of_bounds a .vram hlo hhi
    exact ⟨routeRead_vram s hr, routeWrite_vram v s hr⟩
  case oam =>
    have hr : region a = .oam := region_of_bounds a .oam hlo hhi
    exact ⟨routeRead_oam s hr, routeWrite_oam v s hr⟩

/-! ### Work RAM, its mirror and high RAM -/

/-- The ranges of the RAM that no lock closes (R110). -/
theorem isOpenRam_iff (a : Word) : isOpenRam a = true ↔
    (0xC000 ≤ a.toNat ∧ a.toNat < 0xFE00) ∨ (0xFF80 ≤ a.toNat ∧ a.toNat < 0xFFFF) := by
  have bounds := region_bounds a
  unfold isOpenRam
  cases hr : region a <;> rw [hr] at bounds <;> simp only [Region.first, Region.last] at bounds <;> simp <;> omega

/-- The key of an open address by its number: the mirror's is moved down by 0x2000 (R110). -/
theorem openKey_toNat (a : Word) :
    openKey a = if 0xE000 ≤ a.toNat ∧ a.toNat < 0xFE00 then a.toNat - 0x2000 else a.toNat := by
  have echo : region a = .echo ↔ 0xE000 ≤ a.toNat ∧ a.toNat < 0xFE00 :=
    ⟨fun hr => by have bounds := region_bounds a; rwa [hr] at bounds, fun ⟨hlo, hhi⟩ => region_of_bounds a .echo hlo hhi⟩
  unfold openKey
  simp only [echo]

/-- An open address is stored under its open key. -/
theorem storageKey_open {a : Word} (h : isOpenRam a = true) : storageKey a = some (openKey a) := by
  unfold isOpenRam at h
  unfold storageKey openKey
  cases hr : region a <;> simp [hr] at h ⊢

/-- An address stored under an open address's key is open: the key lies in work RAM or in high RAM. -/
theorem isOpenRam_of_storageKey {a b : Word} (ha : isOpenRam a = true) (h : storageKey b = some (openKey a)) :
    isOpenRam b = true := by
  have bounds := region_bounds b
  rw [isOpenRam_iff] at ha ⊢
  rw [openKey_toNat] at h
  unfold storageKey at h
  cases hr : region b <;> rw [hr] at h bounds <;>
    simp only [Region.first, Region.last, reduceCtorEq, Option.some.injEq] at h bounds <;> split at h <;> omega

/-- Two addresses with one key are equal, or one mirrors the other (R110). -/
theorem openKey_eq_iff (a b : Word) : openKey b = openKey a ↔
    a = b ∨ (0xC000 ≤ a.toNat ∧ a.toNat < 0xDE00 ∧ b.toNat = a.toNat + 0x2000) ∨
      (0xC000 ≤ b.toNat ∧ b.toNat < 0xDE00 ∧ a.toNat = b.toNat + 0x2000) := by
  rw [openKey_toNat, openKey_toNat, ← BitVec.toNat_inj]
  split <;> split <;> omega

/-- What any address reads as after a write to an open one: a matter of the keys alone (R110, R120). -/
theorem routeRead_routeWrite_open {a : Word} (b : Word) (v : Byte) (s : State) (hs : s.memOk) (ha : isOpenRam a = true) :
    routeRead b (routeWrite a v s) = if storageKey b = some (openKey a) then v else routeRead b s := by
  rw [routeWrite_open a v s ha]
  split
  · rename_i h
    have hb := isOpenRam_of_storageKey ha h
    rw [storageKey_open hb, Option.some.injEq] at h
    rw [routeRead_open b _ hb, h]
    exact Memory.read_write_same _ _ _ hs.1
  · rename_i h
    exact routeRead_write_ne b _ v s fun k hk e => h (hk.trans (congrArg some e))

/-- Settles O51: the addresses that read a written byte back are those with its key. -/
theorem ramReadsBack : Obligations.RamReadsBack := by
  intro a b v s hs ha same
  have key : storageKey b = some (openKey a) ↔ same := by
    by_cases hb : isOpenRam b = true
    · rw [storageKey_open hb, Option.some.injEq]
      exact openKey_eq_iff a b
    · refine ⟨fun h => absurd (isOpenRam_of_storageKey ha h) hb, fun h => absurd ?_ hb⟩
      rw [isOpenRam_iff] at ha ⊢
      rcases h with rfl | h | h <;> omega
  rw [routeRead_routeWrite_open b v s hs ha]
  simp only [key]

/-! ### The stack in RAM -/

/-- A push to open RAM stores its two bytes under their keys (R227). -/
theorem pushed_mem_open (v : Word) (s : State) (h1 : isOpenRam (s.regs.sp - 1) = true)
    (h2 : isOpenRam (s.regs.sp - 2) = true) : (pushed v s).mem =
      (s.mem.write (openKey (s.regs.sp - 1)) (hiByte v)).write (openKey (s.regs.sp - 2)) (loByte v) := by
  rw [pushed_eq]
  unfold memWrite
  dsimp only
  rw [tick_mem, routeWrite_open _ _ _ h2, tick_mem, routeWrite_open _ _ _ h1]

/-- The two bytes of a word on an open stack have keys of their own. -/
theorem openKey_sub_one_ne {sp : Word} (h : isOpenRam (sp - 2) = true) : openKey (sp - 1) ≠ openKey (sp - 2) := by
  rw [isOpenRam_iff] at h
  have succ : (sp - 1).toNat = (sp - 2).toNat + 1 := by bv_omega
  rw [openKey_toNat, openKey_toNat]
  split <;> split <;> omega

/-- A word pushed to open RAM is the word on top of the stack (R104, R227, R228). -/
theorem stackTop_pushed_open (v : Word) (s : State) (hs : s.memOk) (h1 : isOpenRam (s.regs.sp - 1) = true)
    (h2 : isOpenRam (s.regs.sp - 2) = true) : stackTop (pushed v s) = v := by
  have above : s.regs.sp - 2 + 1 = s.regs.sp - 1 := by bv_omega
  have mem := pushed_mem_open v s h1 h2
  have hi : routeRead (s.regs.sp - 1) (pushed v s).tick = hiByte v := by
    rw [routeRead_open _ _ h1, tick_mem, mem, Memory.read_write_ne _ _ _ _ (openKey_sub_one_ne h2),
      Memory.read_write_same _ _ _ hs.1]
  have lo : routeRead (s.regs.sp - 2) (pushed v s) = loByte v := by
    rw [routeRead_open _ _ h2, mem, Memory.read_write_same _ _ _ (Memory.wf_write _ _ _ hs.1)]
  unfold stackTop
  rw [pushed_regs]
  dsimp only
  rw [above, hi, lo, hiByte_append_loByte]

/-- A pop loads the word on top of the stack, `POP AF` without the low nibble (R225, R226). -/
theorem stkPair_pop (q : RStk) (s : State) :
    (pop q s).stkPair q = if q = .af then stackTop s &&& 0xFFF0 else stackTop s := by
  rw [pop_eq, ← stkPair_setStkPair_same { s with regs := { s.regs with sp := s.regs.sp + 2 } } q (stackTop s)]
  exact stkPair_congr rfl q

theorem pop_sp (q : RStk) (s : State) : (pop q s).regs.sp = s.regs.sp + 2 := by
  rw [pop_eq]
  exact setStkPair_sp _ q _

/-- Settles O12: the pop reads the word the push stored, and SP goes down and up by two. -/
theorem pushThenPop : Obligations.PushThenPop := by
  intro p q s hs h1 h2
  have top : stackTop (push p s) = s.stkPair p := by
    rw [push_eq]
    exact stackTop_pushed_open (s.stkPair p) s.tick hs h1 h2
  have sp : (push p s).regs.sp = s.regs.sp - 2 := by rw [push_eq, pushed_regs]; rfl
  refine ⟨push p s, pop q (push p s), exec_rowPush p s, exec_rowPop q _, ?_, ?_⟩
  · rw [pop_sp, sp, BitVec.sub_add_cancel]
  · rw [stkPair_pop, top]

end Sys2Proof.Machine

/-! ### The opcode maps: each entry encodes to its number, and decode answers by the entry -/

namespace Sys2Proof.Machine

/-! ### What a row of the primary map encodes to -/

/-- What a row of the primary map encodes to, with operand `d` or `w` where it takes one (R154). -/
def rowEncoding (d : Byte) (w : Word) (r : Row) : List Byte :=
  match r with
  | .p1 i => encode i
  | .p2 mk => encode (mk d)
  | .p3 mk => encode (mk w)
  | .escape => encode .prefixCb

/-- The operand bytes of that encoding (R154). -/
def rowOperand (d : Byte) (w : Word) (r : Row) : List Byte :=
  match r with
  | .p1 _ | .escape => []
  | .p2 _ => [d]
  | .p3 _ => littleEndian w

/-- `rows` number from `n` to `m`, and each encodes to its number and its operand bytes. -/
def encodeAs (n m : Nat) (rows : List Row) : Prop :=
  n + rows.length = m ∧
    ∀ d w, rows.map (rowEncoding d w) = (rows.zipIdx n).map fun x => BitVec.ofNat 8 x.2 :: rowOperand d w x.1

/-- The rows of the map stand one after another. -/
theorem encodeAs.append {n m k : Nat} {rows rows' : List Row} (h : encodeAs n m rows) (h' : encodeAs m k rows') :
    encodeAs n k (rows ++ rows') := by
  obtain ⟨hm, h⟩ := h
  obtain ⟨hk, h'⟩ := h'
  refine ⟨by rw [List.length_append, ← Nat.add_assoc, hm, hk], fun d w => ?_⟩
  rw [List.map_append, List.zipIdx_append, List.map_append, h d w, hm, h' d w]

/-- The primary map, high nibble by high nibble (R162). -/
theorem primaryMap_encodeAs : encodeAs 0x00 0x100 primaryMap := by
  have r0 : encodeAs 0x00 0x10 primaryRow0 := ⟨rfl, fun _ _ => rfl⟩
  have r1 : encodeAs 0x10 0x20 primaryRow1 := ⟨rfl, fun _ _ => rfl⟩
  have r2 : encodeAs 0x20 0x30 primaryRow2 := ⟨rfl, fun _ _ => rfl⟩
  have r3 : encodeAs 0x30 0x40 primaryRow3 := ⟨rfl, fun _ _ => rfl⟩
  have r4 : encodeAs 0x40 0x50 primaryRow4 := ⟨rfl, fun _ _ => rfl⟩
  have r5 : encodeAs 0x50 0x60 primaryRow5 := ⟨rfl, fun _ _ => rfl⟩
  have r6 : encodeAs 0x60 0x70 primaryRow6 := ⟨rfl, fun _ _ => rfl⟩
  have r7 : encodeAs 0x70 0x80 primaryRow7 := ⟨rfl, fun _ _ => rfl⟩
  have r8 : encodeAs 0x80 0x90 primaryRow8 := ⟨rfl, fun _ _ => rfl⟩
  have r9 : encodeAs 0x90 0xA0 primaryRow9 := ⟨rfl, fun _ _ => rfl⟩
  have rA : encodeAs 0xA0 0xB0 primaryRowA := ⟨rfl, fun _ _ => rfl⟩
  have rB : encodeAs 0xB0 0xC0 primaryRowB := ⟨rfl, fun _ _ => rfl⟩
  have rC : encodeAs 0xC0 0xD0 primaryRowC := ⟨rfl, fun _ _ => rfl⟩
  have rD : encodeAs 0xD0 0xE0 primaryRowD := ⟨rfl, fun _ _ => rfl⟩
  have rE : encodeAs 0xE0 0xF0 primaryRowE := ⟨rfl, fun _ _ => rfl⟩
  have rF : encodeAs 0xF0 0x100 primaryRowF := ⟨rfl, fun _ _ => rfl⟩
  exact r0.append r1 |>.append r2 |>.append r3 |>.append r4 |>.append r5 |>.append r6 |>.append r7 |>.append r8
    |>.append r9 |>.append rA |>.append rB |>.append rC |>.append rD |>.append rE |>.append rF

/-- Every opcode has the row that encodes to it (R162). -/
theorem primaryRow_encoding (op d : Byte) (w : Word) :
    rowEncoding d w (primaryRow op) = op :: rowOperand d w (primaryRow op) := by
  have h : op.toNat < primaryMap.length := by rw [primaryMap_length]; exact op.isLt
  have e := congrArg (·[op.toNat]?) (primaryMap_encodeAs.2 d w)
  simpa [primaryRow, h] using e

theorem encode_of_p1 {op : Byte} {i : Instr} (h : primaryRow op = .p1 i) : encode i = [op] := by
  have e := primaryRow_encoding op 0 0
  rw [h] at e
  exact e

theorem encode_of_p2 {op : Byte} {mk : Byte → Instr} (h : primaryRow op = .p2 mk) (d : Byte) : encode (mk d) = [op, d] := by
  have e := primaryRow_encoding op d 0
  rw [h] at e
  exact e

theorem encode_of_p3 {op : Byte} {mk : Word → Instr} (h : primaryRow op = .p3 mk) (w : Word) :
    encode (mk w) = [op, loByte w, hiByte w] := by
  have e := primaryRow_encoding op 0 w
  rw [h] at e
  exact e

/-- The escape byte is the one opcode of its row. -/
theorem opcode_of_escape {op : Byte} (h : primaryRow op = .escape) : op = 0xCB := by
  have e := primaryRow_encoding op 0 0
  rw [h] at e
  exact (List.head_eq_of_cons_eq e).symm

/-- Every second byte selects the row that encodes to it (R165). -/
theorem encode_secondaryRow : ∀ b : Byte, encode (secondaryRow b) = [0xCB, b] := by decide +kernel

/-! ### What decode answers -/

/-- The five ways in which bytes decode, to an instruction and the bytes after it (R154, R160, log entry 7). -/
inductive Decodes : List Byte → Instr → List Byte → Prop where
  | p1 {op : Byte} {i : Instr} (rest : List Byte) (h : primaryRow op = .p1 i) : Decodes (op :: rest) i rest
  | p2 {op : Byte} {mk : Byte → Instr} (d : Byte) (rest : List Byte) (h : primaryRow op = .p2 mk) :
    Decodes (op :: d :: rest) (mk d) rest
  | p3 {op : Byte} {mk : Word → Instr} (lo hi : Byte) (rest : List Byte) (h : primaryRow op = .p3 mk) :
    Decodes (op :: lo :: hi :: rest) (mk (hi ++ lo)) rest
  | cb {op : Byte} (b : Byte) (rest : List Byte) (h : primaryRow op = .escape) :
    Decodes (op :: b :: rest) (secondaryRow b) rest
  | escape {op : Byte} (h : primaryRow op = .escape) : Decodes [op] .prefixCb []

/-- `decode` answers by the row of the first byte. -/
theorem decode_eq_ok_iff {bytes rest : List Byte} {i : Instr} : decode bytes = .ok (i, rest) ↔ Decodes bytes i rest := by
  constructor
  · intro h
    unfold decode at h
    split at h
    · cases h
    · split at h
      next hrow => cases h; exact .p1 _ hrow
      next hrow =>
        split at h
        · cases h; exact .p2 _ _ hrow
        · cases h
      next hrow =>
        split at h
        · cases h; exact .p3 _ _ _ hrow
        · cases h
      next hrow =>
        split at h
        · cases h; exact .cb _ _ hrow
        · cases h; exact .escape hrow
  · intro h
    cases h with
    | p1 _ h | p2 _ _ h | p3 _ _ _ h | cb _ _ h | escape h => simp only [decode, h]

/-- Whatever decodes, encodes to the bytes taken. -/
theorem encode_of_decode {bytes rest : List Byte} {i : Instr} (h : decode bytes = .ok (i, rest)) :
    encode i ++ rest = bytes := by
  cases decode_eq_ok_iff.1 h with
  | p1 _ row => rw [encode_of_p1 row]; rfl
  | p2 d _ row => rw [encode_of_p2 row]; rfl
  | p3 lo hi _ row => rw [encode_of_p3 row, loByte_append, hiByte_append]; rfl
  | cb b _ row => rw [encode_secondaryRow, opcode_of_escape row]; rfl
  | escape row => rw [opcode_of_escape row]; rfl

theorem wellFormed_eq_false_iff (i : Instr) : i.wellFormed = false ↔ i = .prefixCb := by simp [Instr.wellFormed]

/-- Only the escape byte with nothing after it decodes to the row PREFIX_CB: with a byte after it, two bytes are taken. -/
theorem decode_eq_prefixCb {bytes rest : List Byte} (h : decode bytes = .ok (.prefixCb, rest)) : bytes = [0xCB] := by
  obtain rfl : 0xCB :: rest = bytes := encode_of_decode h
  cases rest with
  | nil => rfl
  | cons b rest =>
    have two : decode (0xCB :: b :: rest) = .ok (secondaryRow b, rest) := rfl
    rw [two] at h
    simp at h

/-- Settles O2: whatever decodes encodes back, and only the escape byte alone is read as its own row. -/
theorem encodeOfDecode : Obligations.EncodeOfDecode := by
  intro bytes rest i h
  refine ⟨encode_of_decode h, ?_⟩
  rw [wellFormed_eq_false_iff]
  constructor
  · rintro rfl
    exact decode_eq_prefixCb h
  · rintro rfl
    cases h
    rfl

/-! ### The length of what decodes -/

theorem instrBytes_length (op x y : Byte) : (instrBytes op x y).length = operandCount op + 1 := by
  have h := operandCount_le op
  unfold instrBytes
  generalize operandCount op = n at h
  match n, h with
  | 0, _ | 1, _ | 2, _ => rfl

/-- What three bytes decode to takes as many operand bytes as the opcode calls for (R153). -/
theorem encode_length_of_decode {op x y : Byte} {i : Instr} {rest : List Byte} (h : decode [op, x, y] = .ok (i, rest)) :
    (encode i).length = operandCount op + 1 := by
  have same : encode i ++ rest = instrBytes op x y ++ rest := (encode_of_decode h).trans (decode_three op x y i rest h).2.symm
  rw [List.append_cancel_right same, instrBytes_length]

/-- Any three bytes begin with an instruction (R167). -/
theorem decode_three_total (op x y : Byte) : ∃ i rest, decode [op, x, y] = .ok (i, rest) := by
  simp only [decode_eq_ok_iff]
  cases h : primaryRow op with
  | p1 i => exact ⟨_, _, .p1 _ h⟩
  | p2 mk => exact ⟨_, _, .p2 _ _ h⟩
  | p3 mk => exact ⟨_, _, .p3 _ _ _ h⟩
  | escape => exact ⟨_, _, .cb _ _ h⟩

/-- Settles O3: the length is one more than the operand count of the first byte. -/
theorem everyByteDecodes : Obligations.EveryByteDecodes := by
  intro op x y x' y'
  obtain ⟨i, rest, hi⟩ := decode_three_total op x y
  obtain ⟨j, rest', hj⟩ := decode_three_total op x' y'
  have len := encode_length_of_decode hi
  have len' := encode_length_of_decode hj
  have le := operandCount_le op
  exact ⟨i, j, rest, rest', hi, hj, by omega, by omega, by omega⟩

/-! ### The maps by their fields (R156-R160, R163) -/

theorem primaryRow_ld (r r' : R8) : primaryRow (0x40 + 8 * r.code + r'.code) = .p1 (.rowLd r r') := by
  cases r <;> cases r' <;> rfl

theorem primaryRow_ldImm (r : R8) : primaryRow (0x06 + 8 * r.code) = .p2 (.rowLdImm r) := by cases r <;> rfl

theorem primaryRow_ldFromHl (r : R8) : primaryRow (0x46 + 8 * r.code) = .p1 (.rowLdFromHl r) := by cases r <;> rfl

theorem primaryRow_ldToHl (r : R8) : primaryRow (0x70 + r.code) = .p1 (.rowLdToHl r) := by cases r <;> rfl

theorem primaryRow_ldPair (p : R16) : primaryRow (0x01 + 16 * p.code) = .p3 (.rowLdPair p) := by cases p <;> rfl

theorem primaryRow_push (p : RStk) : primaryRow (0xC5 + 16 * p.code) = .p1 (.rowPush p) := by cases p <;> rfl

theorem primaryRow_pop (p : RStk) : primaryRow (0xC1 + 16 * p.code) = .p1 (.rowPop p) := by cases p <;> rfl

theorem primaryRow_alu (op : AluOp) (x : Opnd8) : primaryRow (0x80 + 8 * op.code + x.code) = .p1 (.rowAlu op x) := by
  rcases x with r | _
  · cases op <;> cases r <;> rfl
  · cases op <;> rfl

theorem primaryRow_aluImm (op : AluOp) : primaryRow (0xC6 + 8 * op.code) = .p2 (.rowAluImm op) := by cases op <;> rfl

theorem primaryRow_inc (x : Opnd8) : primaryRow (0x04 + 8 * x.code) = .p1 (.rowInc x) := by
  rcases x with r | _ <;> [(cases r <;> rfl); rfl]

theorem primaryRow_dec (x : Opnd8) : primaryRow (0x05 + 8 * x.code) = .p1 (.rowDec x) := by
  rcases x with r | _ <;> [(cases r <;> rfl); rfl]

theorem primaryRow_incPair (p : R16) : primaryRow (0x03 + 16 * p.code) = .p1 (.rowIncPair p) := by cases p <;> rfl

theorem primaryRow_decPair (p : R16) : primaryRow (0x0B + 16 * p.code) = .p1 (.rowDecPair p) := by cases p <;> rfl

theorem primaryRow_addHl (p : R16) : primaryRow (0x09 + 16 * p.code) = .p1 (.rowAddHl p) := by cases p <;> rfl

theorem primaryRow_jrIf (cc : Cond) : primaryRow (0x20 + 8 * cc.code) = .p2 (.rowJrIf cc) := by cases cc <;> rfl

theorem primaryRow_jpIf (cc : Cond) : primaryRow (0xC2 + 8 * cc.code) = .p3 (.rowJpIf cc) := by cases cc <;> rfl

theorem primaryRow_callIf (cc : Cond) : primaryRow (0xC4 + 8 * cc.code) = .p3 (.rowCallIf cc) := by cases cc <;> rfl

theorem primaryRow_retIf (cc : Cond) : primaryRow (0xC0 + 8 * cc.code) = .p1 (.rowRetIf cc) := by cases cc <;> rfl

theorem primaryRow_rst : ∀ n : Fin 8, primaryRow (BitVec.ofNat 8 (0xC7 + 8 * n.val)) = .p1 (.rowRst n)
  | 0 | 1 | 2 | 3 | 4 | 5 | 6 | 7 => rfl

theorem primaryRow_undefined : ∀ x ∈ Instr.undefinedRows, primaryRow x.1 = .p1 x.2 := by
  simp only [Instr.undefinedRows, List.forall_mem_cons]
  exact ⟨rfl, rfl, rfl, rfl, rfl, rfl, rfl, rfl, rfl, rfl, rfl, nofun⟩

theorem secondaryRow_rot (op : RotOp) (x : Opnd8) : secondaryRow (8 * op.code + x.code) = .rowRot op x := by
  rcases x with r | _
  · cases op <;> cases r <;> rfl
  · cases op <;> rfl

theorem secondaryRow_bit (b : Fin 8) (x : Opnd8) :
    secondaryRow (0x40 + 8 * BitVec.ofNat 8 b.val + x.code) = .rowBit b x := by
  match b with
  | 0 | 1 | 2 | 3 | 4 | 5 | 6 | 7 => rcases x with r | _ <;> [(cases r <;> rfl); rfl]

theorem secondaryRow_res (b : Fin 8) (x : Opnd8) :
    secondaryRow (0x80 + 8 * BitVec.ofNat 8 b.val + x.code) = .rowRes b x := by
  match b with
  | 0 | 1 | 2 | 3 | 4 | 5 | 6 | 7 => rcases x with r | _ <;> [(cases r <;> rfl); rfl]

theorem secondaryRow_set (b : Fin 8) (x : Opnd8) :
    secondaryRow (0xC0 + 8 * BitVec.ofNat 8 b.val + x.code) = .rowSet b x := by
  match b with
  | 0 | 1 | 2 | 3 | 4 | 5 | 6 | 7 => rcases x with r | _ <;> [(cases r <;> rfl); rfl]

/-! ### What encodes, decodes back -/

/-- Decoding the encoding of `i` gives `i`, whatever follows it. -/
def decodesBack (i : Instr) : Prop := ∀ rest, decode (encode i ++ rest) = .ok (i, rest)

theorem decodesBack_p1 {op : Byte} {i : Instr} (h : primaryRow op = .p1 i) : decodesBack i := by
  intro rest
  rw [encode_of_p1 h, decode_eq_ok_iff]
  exact .p1 rest h

theorem decodesBack_p2 {op : Byte} {mk : Byte → Instr} (h : primaryRow op = .p2 mk) (d : Byte) : decodesBack (mk d) := by
  intro rest
  rw [encode_of_p2 h, decode_eq_ok_iff]
  exact .p2 d rest h

theorem decodesBack_p3 {op : Byte} {mk : Word → Instr} (h : primaryRow op = .p3 mk) (w : Word) : decodesBack (mk w) := by
  intro rest
  have d : Decodes (op :: loByte w :: hiByte w :: rest) (mk (hiByte w ++ loByte w)) rest := .p3 _ _ rest h
  rw [encode_of_p3 h, decode_eq_ok_iff]
  rwa [hiByte_append_loByte] at d

theorem decodesBack_cb {b : Byte} {i : Instr} (h : secondaryRow b = i) : decodesBack i := by
  intro rest
  rw [← h, encode_secondaryRow, decode_eq_ok_iff]
  exact .cb b rest rfl

/-- Every instruction but the escape byte by itself stands in one of the maps: a group at the opcodes its fields make (R156-R160), a
row outside the groups at its own. -/
theorem decodesBack_of_ne_prefixCb (i : Instr) (h : i ≠ .prefixCb) : decodesBack i := by
  induction i using Instr.byRows with
  | hLd r r' => exact decodesBack_p1 (primaryRow_ld r r')
  | hLdImm r d => exact decodesBack_p2 (primaryRow_ldImm r) d
  | hLdFromHl r => exact decodesBack_p1 (primaryRow_ldFromHl r)
  | hLdToHl r => exact decodesBack_p1 (primaryRow_ldToHl r)
  | hLdPair p w => exact decodesBack_p3 (primaryRow_ldPair p) w
  | hPush p => exact decodesBack_p1 (primaryRow_push p)
  | hPop p => exact decodesBack_p1 (primaryRow_pop p)
  | hAlu op x => exact decodesBack_p1 (primaryRow_alu op x)
  | hAluImm op d => exact decodesBack_p2 (primaryRow_aluImm op) d
  | hInc x => exact decodesBack_p1 (primaryRow_inc x)
  | hDec x => exact decodesBack_p1 (primaryRow_dec x)
  | hIncPair p => exact decodesBack_p1 (primaryRow_incPair p)
  | hDecPair p => exact decodesBack_p1 (primaryRow_decPair p)
  | hAddHl p => exact decodesBack_p1 (primaryRow_addHl p)
  | hJrIf cc e => exact decodesBack_p2 (primaryRow_jrIf cc) e
  | hJpIf cc a => exact decodesBack_p3 (primaryRow_jpIf cc) a
  | hCallIf cc a => exact decodesBack_p3 (primaryRow_callIf cc) a
  | hRetIf cc => exact decodesBack_p1 (primaryRow_retIf cc)
  | hRst n => exact decodesBack_p1 (primaryRow_rst n)
  | hRot op x => exact decodesBack_cb (secondaryRow_rot op x)
  | hBit b x => exact decodesBack_cb (secondaryRow_bit b x)
  | hRes b x => exact decodesBack_cb (secondaryRow_res b x)
  | hSet b x => exact decodesBack_cb (secondaryRow_set b x)
  | hLdIndBcA => exact decodesBack_p1 (op := 0x02) rfl
  | hLdIndA16Sp a => exact decodesBack_p3 (op := 0x08) rfl a
  | hLdAIndBc => exact decodesBack_p1 (op := 0x0A) rfl
  | hLdIndDeA => exact decodesBack_p1 (op := 0x12) rfl
  | hLdAIndDe => exact decodesBack_p1 (op := 0x1A) rfl
  | hLdIndHlIncA => exact decodesBack_p1 (op := 0x22) rfl
  | hLdAIndHlInc => exact decodesBack_p1 (op := 0x2A) rfl
  | hLdIndHlDecA => exact decodesBack_p1 (op := 0x32) rfl
  | hLdIndHlD8 d => exact decodesBack_p2 (op := 0x36) rfl d
  | hLdAIndHlDec => exact decodesBack_p1 (op := 0x3A) rfl
  | hLdhIndA8A n => exact decodesBack_p2 (op := 0xE0) rfl n
  | hLdhIndCA => exact decodesBack_p1 (op := 0xE2) rfl
  | hLdIndA16A a => exact decodesBack_p3 (op := 0xEA) rfl a
  | hLdhAIndA8 n => exact decodesBack_p2 (op := 0xF0) rfl n
  | hLdhAIndC => exact decodesBack_p1 (op := 0xF2) rfl
  | hLdHlSpE8 e => exact decodesBack_p2 (op := 0xF8) rfl e
  | hLdSpHl => exact decodesBack_p1 (op := 0xF9) rfl
  | hLdAIndA16 a => exact decodesBack_p3 (op := 0xFA) rfl a
  | hRlca => exact decodesBack_p1 (op := 0x07) rfl
  | hRrca => exact decodesBack_p1 (op := 0x0F) rfl
  | hRla => exact decodesBack_p1 (op := 0x17) rfl
  | hRra => exact decodesBack_p1 (op := 0x1F) rfl
  | hDaa => exact decodesBack_p1 (op := 0x27) rfl
  | hCpl => exact decodesBack_p1 (op := 0x2F) rfl
  | hScf => exact decodesBack_p1 (op := 0x37) rfl
  | hCcf => exact decodesBack_p1 (op := 0x3F) rfl
  | hAddSpE8 e => exact decodesBack_p2 (op := 0xE8) rfl e
  | hJrE8 e => exact decodesBack_p2 (op := 0x18) rfl e
  | hJpA16 a => exact decodesBack_p3 (op := 0xC3) rfl a
  | hRet => exact decodesBack_p1 (op := 0xC9) rfl
  | hCallA16 a => exact decodesBack_p3 (op := 0xCD) rfl a
  | hReti => exact decodesBack_p1 (op := 0xD9) rfl
  | hJpHl => exact decodesBack_p1 (op := 0xE9) rfl
  | hNop => exact decodesBack_p1 (op := 0x00) rfl
  | hStop => exact decodesBack_p1 (op := 0x10) rfl
  | hHalt => exact decodesBack_p1 (op := 0x76) rfl
  | hDi => exact decodesBack_p1 (op := 0xF3) rfl
  | hEi => exact decodesBack_p1 (op := 0xFB) rfl
  | hPrefixCb => exact absurd rfl h
  | hUndefined x hx => exact decodesBack_p1 (primaryRow_undefined x hx)

/-- Settles O1: by row groups, each instruction standing in the map at the opcode it encodes to. -/
theorem decodeOfEncode : Obligations.DecodeOfEncode := by
  intro i rest h
  refine decodesBack_of_ne_prefixCb i (fun e => ?_) rest
  rw [(wellFormed_eq_false_iff i).2 e] at h
  cases h

/-- Settles O4: each word is looked up in the map it is written out from. -/
theorem sampleWords : Obligations.SampleWords :=
  ⟨rfl, rfl, rfl, rfl, rfl, rfl, rfl, rfl, rfl, rfl, rfl, rfl, rfl, rfl, rfl, rfl, rfl, rfl⟩

end Sys2Proof.Machine

/-! ### Steps from the Bug state, and steps of an instruction that is its opcode alone -/

namespace Sys2Proof.Machine

/-- What a read answers does not depend on the cycles charged. -/
theorem routeRead_withStepCycles (a : Word) (n : Nat) (s : State) : routeRead a { s with stepCycles := n } = routeRead a s :=
  routeRead_congr a rfl rfl rfl rfl rfl rfl rfl rfl rfl

/-- A step of a machine that is not halted and takes no interrupt fetches and executes at once (R400, R402). -/
theorem step_eq_fetchExecute {s : State} (hf : s.fault = none) (hh : s.halt ≠ .on) (hp : (s.ime && s.pending) = false) :
    step s = fetchExecute { s with stepCycles := 0 } := by
  have begins := beginStep_running s hh hp
  rw [step_running s hf (by rw [begins]; exact hh), begins]

/-- The outcome of fetch and execute, by what the fetched bytes decode to (R400, R405). -/
theorem fetchExecute_of_decode {s : State} {i : Instr} {rest : List Byte} (h : decode (fetchBytes s).1 = .ok (i, rest)) :
    fetchExecute s = finishStep (exec i (fetchBytes s).2) := by
  unfold fetchExecute
  dsimp only
  rw [h]

/-- The fetch that begins a step from the Bug state: PC ends one short of the instruction's length (R150, R512). -/
theorem fetchBytes_begin_bug {s : State} (hb : s.halt = .bug) : fetchBytes { s with stepCycles := 0 } =
    (instrBytes (routeRead s.regs.pc s) (routeRead s.regs.pc s.tick) (routeRead (s.regs.pc + 1) s.tick.tick),
     { (afterFetch (operandCount (routeRead s.regs.pc s) + 1) s).setPc
        (s.regs.pc + BitVec.ofNat 16 (operandCount (routeRead s.regs.pc s))) with halt := .off }) := by
  rw [fetchBytes_bug { s with stepCycles := 0 } hb]
  dsimp only
  rw [routeRead_withStepCycles]
  exact congrArg₂ (fun x y => (instrBytes _ x y, _)) (routeRead_withStepCycles _ 1 s.tick)
    (routeRead_withStepCycles _ 2 s.tick.tick)

/-- Settles O36: the step fetches the instruction that the three bytes begin with, from the Bug state. -/
theorem haltBugStep : Obligations.HaltBugStep := by
  intro s i rest hf hb hp h
  have hh : s.halt ≠ .on := by rw [hb]; exact nofun
  have fetched := fetchBytes_begin_bug hb
  have own := (decode_three _ _ _ i rest h).1
  have short (n : Nat) : s.regs.pc + BitVec.ofNat 16 (n + 1) - 1 = s.regs.pc + BitVec.ofNat 16 n := by
    rw [← pc_add_one, BitVec.add_assoc, BitVec.add_comm 1, ← BitVec.add_assoc, BitVec.add_sub_cancel]
  rw [step_eq_fetchExecute hf hh hp, fetchExecute_of_decode (by rw [fetched]; exact own), fetched,
    encode_length_of_decode h, short]

/-- `s` after a step's opcode fetch (R150): PC past the byte or, in the halt-bug fetch, on it. -/
def afterOpcode (s : State) : State :=
  { (afterFetch 1 s).setPc (if s.halt = .bug then s.regs.pc else s.regs.pc + 1) with halt := .off }

/-- The opcode fetch of a step that is not halted (R150). -/
theorem fetchOp_begin {s : State} (hh : s.halt ≠ .on) :
    fetchOp { s with stepCycles := 0 } = (routeRead s.regs.pc s, afterOpcode s) := by
  unfold afterOpcode
  by_cases hb : s.halt = .bug
  · rw [fetchOp_bug { s with stepCycles := 0 } hb, if_pos hb]
    exact congrArg (·, _) (routeRead_withStepCycles _ 0 s)
  · have off : s.halt = .off := by
      cases h : s.halt with
      | off => rfl
      | on => exact absurd h hh
      | bug => exact absurd h hb
    rw [fetchOp_running { s with stepCycles := 0 } hb, if_neg hb, ← off]
    exact congrArg (·, _) (routeRead_withStepCycles _ 0 s)

/-- An instruction that is its opcode alone is fetched with it (R153). -/
theorem fetchBytes_of_p1 {s : State} {i : Instr} (row : primaryRow (fetchOp s).1 = .p1 i) :
    fetchBytes s = ([(fetchOp s).1], (fetchOp s).2) := by
  unfold fetchBytes operandCount
  dsimp only
  rw [row]
  rfl

/-- The step of an instruction that is its opcode alone (R400, R150). -/
theorem step_of_p1 {s : State} {i : Instr} (hf : s.fault = none) (hh : s.halt ≠ .on) (hp : (s.ime && s.pending) = false)
    (row : primaryRow (routeRead s.regs.pc s) = .p1 i) : step s = finishStep (exec i (afterOpcode s)) := by
  have opcode := fetchOp_begin hh
  have fetched := fetchBytes_of_p1 (s := { s with stepCycles := 0 }) (by rw [opcode]; exact row)
  rw [opcode] at fetched
  have alone : decode [routeRead s.regs.pc s] = .ok (i, []) := decode_eq_ok_iff.2 (.p1 [] row)
  rw [step_eq_fetchExecute hf hh hp, fetchExecute_of_decode (by rw [fetched]; exact alone), fetched]

/-- An undefined opcode's row records the fault with the opcode and its address (R163, R335). -/
theorem exec_undefined (s : State) :
    ∀ x ∈ Instr.undefinedRows, exec x.2 s = .next (raiseFault (.illegalOpcode x.1 s.opPc) s) := by
  simp only [Instr.undefinedRows, List.forall_mem_cons]
  exact ⟨rfl, rfl, rfl, rfl, rfl, rfl, rfl, rfl, rfl, rfl, rfl, nofun⟩

/-- Settles O28: each opcode's row, then the step of a row that is its opcode alone. -/
theorem undefinedOpcodes : Obligations.UndefinedOpcodes := by
  intro op hop
  obtain ⟨⟨_, i⟩, hx, rfl⟩ : ∃ x ∈ Instr.undefinedRows, x.1 = op := List.mem_map.1 hop
  have row := primaryRow_undefined _ hx
  refine ⟨⟨i, hx, encode_of_p1 row, fun s => exec_undefined s _ hx⟩, fun s hf hh hp hread => ?_⟩
  have runs := step_of_p1 hf hh hp (i := i) (by rw [hread]; exact row)
  rw [exec_undefined _ _ hx] at runs
  exact ⟨runs, step_faulted _ _ rfl⟩

end Sys2Proof.Machine

/-! ### Loads and the stack: what an update of the register file computes -/

namespace Sys2Proof.Machine

/-- A row with a word operand encodes to its opcode, the low byte and the high byte (R154). -/
theorem encode_of_p3_append {op : Byte} {mk : Word → Instr} (h : primaryRow op = .p3 mk) (hi lo : Byte) :
    encode (mk (hi ++ lo)) = [op, lo, hi] := by
  rw [encode_of_p3 h, loByte_append, hiByte_append]

/-- The page FF00 is the high byte 0xFF (R161). -/
theorem ioPage_eq : ∀ n : Byte, ioPage n = 0xFF#8 ++ n := by decide

theorem setReg_withRegs (r : R8) (v : Byte) (s : State) : s.setReg r v = { s with regs := (s.setReg r v).regs } := by
  cases r <;> rfl

theorem keepsRegs_withF (f : Byte) (s : State) : keepsRegs [] s (s.withF f) :=
  ⟨fun r _ => by cases r <;> rfl, fun _ => rfl⟩

theorem keepsFlags_trans {fs : List Flag} {s t u : State} (h1 : keepsFlags fs s t) (h2 : keepsFlags fs t u) :
    keepsFlags fs s u := ⟨fun f hf => (h2.1 f hf).trans (h1.1 f hf), fun he => (h2.2 he).trans (h1.2 he)⟩

/-- A frame that allows every flag claims nothing of F. -/
theorem keepsFlags_all (s t : State) : keepsFlags [.z, .n, .h, .c] s t :=
  ⟨fun f hf => absurd (by cases f <;> simp) hf, nofun⟩

/-- What an instruction that is `n` ticks and a write of one register computes. -/
theorem computes_setReg {i : Instr} {r : R8} {v : Byte} {n : Nat} {s : State}
    (he : exec i s = .next { s.ticks n with regs := (s.setReg r v).regs }) :
    computes i [.r8 r] [] n s { s.ticks n with regs := (s.setReg r v).regs } :=
  computes_of _ he (setReg_pc s r v) (keepsRegs_congr rfl (keepsRegs_setReg r v s)) (keepsFlags_of_f (setReg_f s r v))

/-- What an instruction that is `n` ticks and a write of one pair computes. -/
theorem computes_setPair {i : Instr} {p : R16} {w : Word} {n : Nat} {s : State}
    (he : exec i s = .next { s.ticks n with regs := (s.setPair p w).regs }) :
    computes i (pairRegs p) [] n s { s.ticks n with regs := (s.setPair p w).regs } :=
  computes_of _ he (setPair_pc s p w) (keepsRegs_congr rfl (keepsRegs_setPair p w s)) (keepsFlags_of_f (setPair_f s p w))

/-- A register load takes no cycle beyond its fetch (R200, R201). -/
theorem computes_registerLoad {i : Instr} {r : R8} {v : Byte} {s : State} (he : exec i s = .next (s.setReg r v)) :
    ∃ t, computes i [.r8 r] [] 0 s t ∧ t.reg r = v := by
  refine ⟨s.setReg r v, ?_, reg_setReg_same s r v⟩
  rw [setReg_withRegs] at he ⊢
  exact computes_setReg he

/-- Settles O5: each row is a write of one register or pair, after one tick for LD SP,HL. -/
theorem registerLoads : Obligations.RegisterLoads := by
  refine ⟨fun rd r s => ⟨encode_of_p1 (primaryRow_ld rd r), computes_registerLoad (exec_rowLd rd r s)⟩,
    fun rd v s => ⟨encode_of_p2 (primaryRow_ldImm rd) v, computes_registerLoad (exec_rowLdImm rd v s)⟩,
    fun p lo hi s => ⟨encode_of_p3_append (primaryRow_ldPair p) hi lo, s.setPair p (hi ++ lo), ?_,
      pair_setPair_same s p _⟩,
    fun s => ⟨encode_of_p1 rfl, _, computes_setPair (p := .sp) (w := s.pair .hl) (n := 1) rfl, rfl⟩⟩
  have he := exec_rowLdPair p (hi ++ lo) s
  rw [setPair_withRegs p _ s s rfl] at he ⊢
  exact computes_setPair he

/-! ### Loads from memory and stores -/

/-- A row that loads a register from the bus (R202, R205, R206, R209, R211, R213). -/
theorem loads_of_exec {i : Instr} {r : R8} {a : Word} {s : State} (he : exec i s = .next (loadReg r a s)) :
    loads i r a s := by
  rw [loadReg_eq] at he
  exact ⟨_, computes_setReg (n := 1) he, (reg_congr rfl r).trans (reg_setReg_same s r (routeRead a s))⟩

/-- Settles O6: each row is one bus read into a register, at its own address. -/
theorem memoryLoads : Obligations.MemoryLoads := by
  refine fun s => ⟨fun r => ⟨encode_of_p1 (primaryRow_ldFromHl r), loads_of_exec (exec_rowLdFromHl r s)⟩,
    ⟨encode_of_p1 rfl, loads_of_exec rfl⟩, ⟨encode_of_p1 rfl, loads_of_exec rfl⟩,
    fun lo hi => ⟨encode_of_p3_append rfl hi lo, loads_of_exec rfl⟩, ⟨encode_of_p1 rfl, ?_⟩,
    fun n => ⟨encode_of_p2 rfl n, ?_⟩⟩
  · rw [← ioPage_eq]
    exact loads_of_exec rfl
  · rw [← ioPage_eq]
    exact loads_of_exec rfl

/-- A row that is one bus write (R203, R204, R207, R208, R210, R212, R214). -/
theorem stores_of_exec {i : Instr} {a : Word} {v : Byte} {s : State} (he : exec i s = .next (memWrite a v s)) :
    stores i a v s := ⟨he, storeFrame_of_busRun (BusRun.start.memWrite a v)⟩

/-- Settles O7: each row is one bus write at its own address, and LD (a16),SP is two. -/
theorem memoryStores : Obligations.MemoryStores := by
  refine fun s => ⟨fun r => ⟨encode_of_p1 (primaryRow_ldToHl r), stores_of_exec (exec_rowLdToHl r s)⟩,
    fun v => ⟨encode_of_p2 rfl v, stores_of_exec rfl⟩,
    ⟨encode_of_p1 rfl, stores_of_exec rfl⟩, ⟨encode_of_p1 rfl, stores_of_exec rfl⟩,
    fun lo hi => ⟨encode_of_p3_append rfl hi lo, stores_of_exec rfl⟩, ⟨encode_of_p1 rfl, ?_⟩,
    fun n => ⟨encode_of_p2 rfl n, ?_⟩,
    fun lo hi => ⟨encode_of_p3_append rfl hi lo, _, rfl, ?_, ?_⟩⟩
  · rw [← ioPage_eq]
    exact stores_of_exec rfl
  · rw [← ioPage_eq]
    exact stores_of_exec rfl
  · exact congrArg Host.Outcome.next (storeSp_eq (hi ++ lo) s)
  · exact storeFrame_of_busRun ((BusRun.start.memWrite _ _).memWrite _ _)

/-! ### Loads and stores that step HL -/

/-- A word stepped up, in arithmetic. -/
theorem toNat_add_one (w : Word) : ((w + 1).toNat : Int) = (w.toNat + 1) % 65536 := by bv_omega

/-- A word stepped down, in arithmetic. -/
theorem toNat_add_neg_one (w : Word) : ((w + -1).toNat : Int) = (w.toNat + -1) % 65536 := by bv_omega

/-- A load of A at HL that then adds `step` to HL (R215, R216). -/
theorem computes_loadAHlStep {i : Instr} {step : Word} {s : State} (he : exec i s = .next (loadAHlStep step s)) :
    ∃ t, computes i [.r8 .a, .r8 .h, .r8 .l] [] 1 s t ∧ t.regs.a = routeRead (s.pair .hl) s ∧
      t.pair .hl = s.pair .hl + step := by
  rw [loadAHlStep_eq] at he
  refine ⟨_, computes_of (n := 1) _ he rfl ?_ (keepsFlags_of_f rfl), rfl,
    pair_setPair_same (s.setReg .a (routeRead (s.pair .hl) s)) .hl _⟩
  exact keepsRegs_trans (keepsRegs_mono (by simp) (keepsRegs_setReg .a (routeRead (s.pair .hl) s) s))
    (keepsRegs_congr rfl (keepsRegs_mono (by simp [pairRegs]) (keepsRegs_setPair .hl (s.pair .hl + step) _)))

/-- A store of A at HL that then adds `step` to HL has the frame of one store and a write of HL (R217, R218). -/
theorem storeAHlStep_storeFrame (step : Word) (s : State) :
    storeFrame [.r8 .h, .r8 .l] [] [s.pair .hl] 1 s
      ((memWrite (s.pair .hl) s.regs.a s).setPair .hl (s.pair .hl + step)) := by
  rw [setPair_withRegs .hl _ s _ (memWrite_regs _ _ s)]
  exact (BusRun.start.memWrite _ _).storeFrame _ (keepsRegs_congr rfl (keepsRegs_setPair .hl _ s)) (keepsFlags_of_f rfl)

/-- Settles O8: the access at the old HL, then HL plus a step that is one up or one down. -/
theorem hlStepping : Obligations.HlStepping := by
  intro s hl stepped loading storing
  have load {i : Instr} {w : Word} {k : Int} (he : exec i s = .next (loadAHlStep w s))
      (hk : ((hl + w).toNat : Int) = (hl.toNat + k) % 65536) : loading i k := by
    obtain ⟨t, ht, ha, hp⟩ := computes_loadAHlStep he
    exact ⟨t, ht, ha, (congrArg (fun v : Word => (v.toNat : Int)) hp).trans hk⟩
  have store {i : Instr} {w : Word} {k : Int} (he : exec i s = .next (storeAHlStep w s))
      (hk : ((hl + w).toNat : Int) = (hl.toNat + k) % 65536) : storing i k := by
    refine ⟨hl + w, _, rfl, he.trans (congrArg _ (storeAHlStep_eq w s)), ?_, storeAHlStep_storeFrame w s⟩
    exact (congrArg (fun v : Word => (v.toNat : Int)) (pair_setPair_same _ .hl (hl + w))).trans hk
  exact ⟨encode_of_p1 rfl, load rfl (toNat_add_one hl), encode_of_p1 rfl, load rfl (toNat_add_neg_one hl),
    encode_of_p1 rfl, store rfl (toNat_add_one hl), encode_of_p1 rfl, store rfl (toNat_add_neg_one hl)⟩

/-! ### Sums of SP and a signed byte -/

/-- `s` with SP plus the signed byte `e` in the pair `p`, and the flags of that sum (R223, R284). -/
def withSpSum (p : R16) (e : Byte) (s : State) : State :=
  (s.setPair p (spPlusE8 s.regs.sp e).val).setFlags false false (spPlusE8 s.regs.sp e).h (spPlusE8 s.regs.sp e).c

theorem withSpSum_pair (p : R16) (e : Byte) (s : State) :
    (((withSpSum p e s).pair p).toNat : Int) = (s.regs.sp.toNat + signedByte e) % 65536 := by
  rw [← spPlusE8_val, ← pair_setPair_same s p (spPlusE8 s.regs.sp e).val]
  cases p <;> rfl

theorem withSpSum_hasFlags (p : R16) (e : Byte) (s : State) :
    hasFlags (withSpSum p e s) false false (decide (15 < s.regs.sp.toNat % 16 + e.toNat % 16))
      (decide (255 < s.regs.sp.toNat % 256 + e.toNat)) :=
  hasFlags_of rfl rfl rfl (spPlusE8_h s.regs.sp e) (spPlusE8_c s.regs.sp e)

/-- What an instruction that is `n` ticks and that sum computes. -/
theorem computes_withSpSum {i : Instr} {p : R16} {e : Byte} {n : Nat} {s : State}
    (he : exec i s = .next { s.ticks n with regs := (withSpSum p e s).regs }) :
    computes i (pairRegs p) [.z, .n, .h, .c] n s { s.ticks n with regs := (withSpSum p e s).regs } := by
  refine computes_of _ he (setPair_pc s p _) ?_ (keepsFlags_all _ _)
  exact keepsRegs_trans (keepsRegs_setPair p _ s)
    (keepsRegs_congr rfl (keepsRegs_mono (by simp) (keepsRegs_setFlags _ _ _ _ _)))

/-- Settles O9: both rows write the sum and its flags, to HL after one cycle or to SP after two. -/
theorem stackPointerSums : Obligations.StackPointerSums := fun e s =>
  ⟨encode_of_p2 rfl e,
    ⟨_, computes_withSpSum (p := .hl) (e := e) (n := 1) rfl, withSpSum_pair .hl e s, withSpSum_hasFlags .hl e s⟩,
    encode_of_p2 rfl e,
    ⟨_, computes_withSpSum (p := .sp) (e := e) (n := 2) rfl, withSpSum_pair .sp e s, withSpSum_hasFlags .sp e s⟩⟩

/-! ### The frames of a push and a pop -/

/-- One internal cycle and a push change SP and the two bytes below it (R227). -/
theorem pushed_tick_storeFrame (v : Word) (s : State) :
    storeFrame [.sp] [] [s.regs.sp - 1, s.regs.sp - 2] 3 s (pushed v s.tick) := by
  rw [pushed_eq]
  exact ((BusRun.start.tick.memWrite _ _).memWrite _ _).storeFrame _ (keepsRegs_setPair .sp (s.regs.sp - 2) s)
    (keepsFlags_of_f rfl)

/-- Settles O10: a push is one tick and `Push16` of the pair. -/
theorem pushWord : Obligations.PushWord := fun p s =>
  ⟨encode_of_p1 (primaryRow_push p), (exec_rowPush p s).trans (congrArg _ (push_eq p s)),
    congrArg Regs.sp (pushed_regs (s.stkPair p) s.tick), pushed_tick_storeFrame (s.stkPair p) s⟩

/-- A pop changes SP and what its pair writes, two cycles after its fetch (R225, R226, R228). -/
theorem computes_pop {p : RStk} {rs : List FrameReg} {fs : List Flag} (s : State)
    (hr : ∀ u : State, keepsRegs rs u (u.setStkPair p (stackTop s)))
    (hf : ∀ u : State, keepsFlags fs u (u.setStkPair p (stackTop s))) :
    computes (.rowPop p) (.sp :: rs) fs 2 s (pop p s) := by
  have he := exec_rowPop p s
  rw [pop_eq] at he ⊢
  refine computes_of _ he (setStkPair_pc _ p _) ?_ ?_
  · exact keepsRegs_trans (keepsRegs_mono (by simp [pairRegs]) (keepsRegs_setPair .sp (s.regs.sp + 2) s))
      (keepsRegs_congr rfl (keepsRegs_mono (by simp +contextual) (hr _)))
  · exact keepsFlags_trans (keepsFlags_of_f rfl) (keepsFlags_congr rfl (hf _))

/-- A pop into the pair `q` loads the word on top of the stack (R225). -/
theorem computes_popPair {p : RStk} {q : R16} (s : State) (hq : ∀ (u : State) (v : Word), u.setStkPair p v = u.setPair q v) :
    ∃ t, computes (.rowPop p) (.sp :: pairRegs q) [] 2 s t ∧ t.pair q = stackTop s ∧ t.regs.sp = s.regs.sp + 2 := by
  refine ⟨pop p s, computes_pop s (fun u => ?_) (fun u => ?_), ?_, pop_sp p s⟩
  · rw [hq]
    exact keepsRegs_setPair q _ u
  · rw [hq]
    exact keepsFlags_of_f (setPair_f u q _)
  · rw [pop_eq, hq]
    exact (pair_congr rfl q).trans (pair_setPair_same _ q (stackTop s))

/-- `POP AF` writes A and F (R226). -/
theorem keepsRegs_setStkPair_af (v : Word) (u : State) : keepsRegs [.r8 .a] u (u.setStkPair .af v) :=
  keepsRegs_trans (keepsRegs_setReg .a (hiByte v) u) (keepsRegs_mono (by simp) (keepsRegs_withF (loByte v &&& 0xF0) _))

/-- Settles O11: the word on top of the stack goes to a pair of registers, or to A and the high nibble of F. -/
theorem popWord : Obligations.PopWord := by
  refine ⟨fun s x hx => ⟨encode_of_p1 (primaryRow_pop x.1), ?_⟩, fun s => ⟨encode_of_p1 (primaryRow_pop .af), pop .af s,
    computes_pop s (keepsRegs_setStkPair_af _) (fun u => keepsFlags_all u _), ?_, ?_, pop_sp .af s⟩⟩
  · simp only [List.mem_cons, List.not_mem_nil, or_false] at hx
    rcases hx with rfl | rfl | rfl <;> exact computes_popPair s fun _ _ => rfl
  · rw [pop_eq]
    rfl
  · rw [pop_eq]
    rfl

end Sys2Proof.Machine

/-! ### 8-bit arithmetic: what a write of A and the flags computes -/

namespace Sys2Proof.Machine

/-- What an instruction that is `k` ticks and a write of the flags computes: a flag outside `fs` is written with its old value. -/
theorem computes_setFlags {i : Instr} {z n h c : Bool} {fs : List Flag} {k : Nat} {s : State} (hne : fs ≠ [])
    (he : exec i s = .next { s.ticks k with regs := (s.setFlags z n h c).regs })
    (hz : .z ∉ fs → z = s.zf) (hn : .n ∉ fs → n = s.nf) (hh : .h ∉ fs → h = s.hf) (hc : .c ∉ fs → c = s.cf) :
    computes i [] fs k s { s.ticks k with regs := (s.setFlags z n h c).regs } :=
  computes_of _ he rfl (keepsRegs_setFlags z n h c s) (keepsFlags_setFlags z n h c s hne hz hn hh hc)

/-- What an instruction that is `k` ticks and a write of A and the flags computes. -/
theorem computes_setA_setFlags {i : Instr} {v : Byte} {z n h c : Bool} {fs : List Flag} {k : Nat} {s : State} (hne : fs ≠ [])
    (he : exec i s = .next { s.ticks k with regs := ((s.setReg .a v).setFlags z n h c).regs })
    (hz : .z ∉ fs → z = s.zf) (hn : .n ∉ fs → n = s.nf) (hh : .h ∉ fs → h = s.hf) (hc : .c ∉ fs → c = s.cf) :
    computes i [.r8 .a] fs k s { s.ticks k with regs := ((s.setReg .a v).setFlags z n h c).regs } :=
  computes_of _ he rfl
    (keepsRegs_trans (keepsRegs_setReg .a v s) (keepsRegs_mono (by simp) (keepsRegs_setFlags z n h c _)))
    (keepsFlags_congr_f (t := s.setFlags z n h c) rfl (keepsFlags_setFlags z n h c s hne hz hn hh hc))

/-! ### The ALU group -/

@[simp] theorem setReg_a_same (s : State) (v : Byte) : (s.setReg .a v).regs.a = v := rfl

theorem applyAlu_cp (v : Byte) (s : State) : applyAlu .cp v s = s.setAluFlags (alu8 .cp s.regs.a v s.cf) := rfl

/-- Every operation but CP writes its result to A (R262). -/
theorem applyAlu_of_ne_cp {op : AluOp} (v : Byte) (s : State) (h : op ≠ .cp) : applyAlu op v s =
    (s.setReg .a (alu8 op s.regs.a v s.cf).val).setAluFlags (alu8 op s.regs.a v s.cf) := by
  simp [applyAlu, aluWrites, h]

theorem applyAlu_a {op : AluOp} (v : Byte) (s : State) (h : op ≠ .cp) :
    (applyAlu op v s).regs.a = (alu8 op s.regs.a v s.cf).val := by
  rw [applyAlu_of_ne_cp v s h]
  rfl

theorem applyAlu_f (op : AluOp) (v : Byte) (s : State) : (applyAlu op v s).regs.f =
    packFlags (alu8 op s.regs.a v s.cf).z (alu8 op s.regs.a v s.cf).n (alu8 op s.regs.a v s.cf).h
      (alu8 op s.regs.a v s.cf).c := rfl

/-- The ALU group writes A, unless the operation is CP, and the flags (R240-R264). -/
theorem computes_applyAlu {i : Instr} {op : AluOp} {k : Nat} {v : Byte} {s : State}
    (he : exec i s = .next { s.ticks k with regs := (applyAlu op v s).regs }) :
    computes i (if op = .cp then [] else [.r8 .a]) [.z, .n, .h, .c] k s
      { s.ticks k with regs := (applyAlu op v s).regs } := by
  by_cases hop : op = .cp
  · subst hop
    rw [applyAlu_cp] at he ⊢
    exact computes_setFlags (by simp) he (by simp) (by simp) (by simp) (by simp)
  · rw [applyAlu_of_ne_cp v s hop] at he ⊢
    rw [if_neg hop]
    exact computes_setA_setFlags (by simp) he (by simp) (by simp) (by simp) (by simp)

/-- What holds of every instruction that is `k` ticks and the ALU operation `op` holds of the rows of `op`, with a register, (HL)
or an immediate as operand, and their opcodes are those of the map (R159). -/
theorem aluRows {op : AluOp} {s : State} {P : Instr → Nat → Byte → Prop}
    (h : ∀ {i : Instr} {k : Nat} {v : Byte}, exec i s = .next { s.ticks k with regs := (applyAlu op v s).regs } → P i k v) :
    (∀ x : Opnd8, encode (.rowAlu op x) = [0x80 + 8 * op.code + x.code] ∧ P (.rowAlu op x) (opndCycles x) (opndVal x s)) ∧
    ∀ v : Byte, encode (.rowAluImm op v) = [0xC6 + 8 * op.code, v] ∧ P (.rowAluImm op v) 0 v := by
  refine ⟨fun x => ⟨encode_of_p1 (primaryRow_alu op x), h ?_⟩, fun v => ⟨encode_of_p2 (primaryRow_aluImm op) v, h ?_⟩⟩
  · rw [exec_rowAlu, aluOpnd_eq]
  · rw [exec_rowAluImm]
    cases op <;> rfl

/-- An operation that is `add8` with carry `c` (R240-R246). -/
theorem computes_add8 {i : Instr} {op : AluOp} {k : Nat} {v : Byte} {s : State} (c : Bool) (hop : op ≠ .cp)
    (e : alu8 op s.regs.a v s.cf = add8 s.regs.a v c)
    (he : exec i s = .next { s.ticks k with regs := (applyAlu op v s).regs }) :
    ∃ t, computes i [.r8 .a] [.z, .n, .h, .c] k s t ∧
      t.regs.a.toNat = (s.regs.a.toNat + v.toNat + c.toNat) % 256 ∧
      hasFlags t (decide ((s.regs.a.toNat + v.toNat + c.toNat) % 256 = 0)) false
        (decide (15 < s.regs.a.toNat % 16 + v.toNat % 16 + c.toNat)) (decide (255 < s.regs.a.toNat + v.toNat + c.toNat)) := by
  have ht := computes_applyAlu he
  rw [if_neg hop] at ht
  refine ⟨_, ht, ?_, hasFlags_of (applyAlu_f op v s) ?_ ?_ ?_ ?_⟩
  · exact (congrArg BitVec.toNat ((applyAlu_a v s hop).trans (congrArg AluOut.val e))).trans (add8_val _ _ _)
  · rw [e, add8_z]
  · rw [e]
    rfl
  · rw [e, add8_h]
  · rw [e]
    rfl

/-- Settles O13: both operations are `add8`, ADC with the carry flag and ADD without. -/
theorem additions : Obligations.Additions := by
  intro s op hop
  simp only [List.mem_cons, List.not_mem_nil, or_false] at hop
  obtain rfl | rfl := hop
  · exact aluRows fun he => computes_add8 false (by simp) rfl he
  · exact aluRows fun he => computes_add8 s.cf (by simp) rfl he

/-- An operation that is `sub8` with borrow `c` (R247-R252, R262-R264). -/
theorem computes_sub8 {i : Instr} {op : AluOp} {k : Nat} {v : Byte} {s : State} (c : Bool)
    (e : alu8 op s.regs.a v s.cf = sub8 s.regs.a v c)
    (he : exec i s = .next { s.ticks k with regs := (applyAlu op v s).regs }) :
    ∃ t, computes i (if op = .cp then [] else [.r8 .a]) [.z, .n, .h, .c] k s t ∧
      (op ≠ .cp → (t.regs.a.toNat : Int) = ((s.regs.a.toNat : Int) - v.toNat - c.toNat) % 256) ∧
      hasFlags t (decide (((s.regs.a.toNat : Int) - v.toNat - c.toNat) % 256 = 0)) true
        (decide (s.regs.a.toNat % 16 < v.toNat % 16 + c.toNat)) (decide (s.regs.a.toNat < v.toNat + c.toNat)) := by
  refine ⟨_, computes_applyAlu he, fun hop => ?_, hasFlags_of (applyAlu_f op v s) ?_ ?_ ?_ ?_⟩
  · refine Eq.trans ?_ (sub8_val _ _ _)
    exact congrArg (fun a : Byte => (a.toNat : Int)) ((applyAlu_a v s hop).trans (congrArg AluOut.val e))
  · rw [e, sub8_z]
  · rw [e]
    rfl
  · rw [e, sub8_h]
  · rw [e]
    rfl

/-- Settles O14: the three operations are `sub8`, SBC with the carry flag and the others without. -/
theorem subtractions : Obligations.Subtractions := by
  intro s op hop
  simp only [List.mem_cons, List.not_mem_nil, or_false] at hop
  obtain rfl | rfl | rfl := hop
  · exact aluRows fun he => computes_sub8 false rfl he
  · exact aluRows fun he => computes_sub8 s.cf rfl he
  · exact aluRows fun he => computes_sub8 false rfl he

/-- An operation that is `logic8` of the byte `r`, with H as given (R253-R261). -/
theorem computes_logic8 {i : Instr} {op : AluOp} {k : Nat} {v r : Byte} {h : Bool} {s : State} (hop : op ≠ .cp)
    (e : alu8 op s.regs.a v s.cf = logic8 r h)
    (he : exec i s = .next { s.ticks k with regs := (applyAlu op v s).regs }) :
    ∃ t, computes i [.r8 .a] [.z, .n, .h, .c] k s t ∧ t.regs.a = r ∧ hasFlags t (decide (r = 0)) false h false := by
  have ht := computes_applyAlu he
  rw [if_neg hop] at ht
  refine ⟨_, ht, (applyAlu_a v s hop).trans (congrArg AluOut.val e), hasFlags_of (applyAlu_f op v s) ?_ ?_ ?_ ?_⟩
  · rw [e]
    exact beq_eq_decide r 0
  all_goals
    rw [e]
    rfl

/-- Settles O15: the three operations are `logic8` of the bitwise operation. -/
theorem logic : Obligations.Logic := by
  intro s op hop combines
  have combine {r : Byte → Byte} (hcp : op ≠ .cp) (e : ∀ v, alu8 op s.regs.a v s.cf = logic8 (r v) (decide (op = .and)))
      (bits : ∀ (v : Byte) (k : Nat), k < 8 → (r v).getLsbD k =
        if op = .and then s.regs.a.getLsbD k && v.getLsbD k
        else if op = .xor then s.regs.a.getLsbD k != v.getLsbD k
        else s.regs.a.getLsbD k || v.getLsbD k)
      {i : Instr} {k : Nat} {v : Byte} (he : exec i s = .next { s.ticks k with regs := (applyAlu op v s).regs }) :
      combines i k v := by
    obtain ⟨t, ht, ha, hf⟩ := computes_logic8 hcp (e v) he
    rw [← ha] at hf
    exact ⟨t, ht, ha ▸ bits v, hf⟩
  simp only [List.mem_cons, List.not_mem_nil, or_false] at hop
  obtain rfl | rfl | rfl := hop
  · exact aluRows (combine (by simp) (fun _ => rfl) fun v k _ => BitVec.getLsbD_and)
  · exact aluRows (combine (by simp) (fun _ => rfl) fun v k _ => BitVec.getLsbD_xor)
  · exact aluRows (combine (by simp) (fun _ => rfl) fun v k _ => BitVec.getLsbD_or)

/-! ### INC and DEC -/

/-- A read-modify-write of `x` that leaves `w` in it, then Z from `w`, the flags N and H, and C as it was (R265-R268). -/
theorem steps_of_exec {i : Instr} {x : Opnd8} {w : Byte} {z n h h' : Bool} {s : State}
    (he : exec i s = .next ((afterOpnd x w s).setFlags z n h s.cf)) (hz : z = decide (w = 0)) (hh : h = h') :
    ∃ t, exec i s = .next t ∧ t = (afterOpnd x w s).withF t.regs.f ∧ opndFrame x [.z, .n, .h] s t ∧
      hasFlags t (decide (w = 0)) n h' s.cf :=
  ⟨_, he, rfl, opndFrame_setFlags x w z n h s.cf s (by simp) (by simp) (by simp) (by simp) fun _ => rfl,
    hasFlags_of rfl hz rfl hh rfl⟩

theorem inc8_val (v : Byte) (c : Bool) : (inc8 v c).val = BitVec.ofNat 8 (v.toNat + 1) := by
  show v + 1 = _
  bv_omega

theorem dec8_val (v : Byte) (c : Bool) : (dec8 v c).val = BitVec.ofNat 8 (v.toNat + 255) := by
  show v - 1 = _
  bv_omega

/-- Settles O16: both rows write back the operand one up or one down, then the flags. -/
theorem incrementsAndDecrements : Obligations.IncrementsAndDecrements := by
  intro x s v steps
  refine ⟨encode_of_p1 (primaryRow_inc x), ?_, encode_of_p1 (primaryRow_dec x), ?_⟩
  · have he := exec_rowInc x s
    rw [incOpnd_eq] at he
    have k := steps_of_exec he (beq_eq_decide _ _) (inc8_h _ _)
    rwa [inc8_val] at k
  · have he := exec_rowDec x s
    rw [decOpnd_eq] at he
    have k := steps_of_exec he (beq_eq_decide _ _) (dec8_h _ _)
    rwa [dec8_val] at k

end Sys2Proof.Machine

/-! ### DAA -/

namespace Sys2Proof

open Sys2Proof.Machine

/-- Settles O17: DAA is a write of A and the flags whose value `daa8_val` gives in arithmetic; N is written with its old value. -/
theorem decimalAdjust : Obligations.DecimalAdjust := by
  intro s a high low correction r
  obtain ⟨hv, hc⟩ := daa8_val s.regs.a s.nf s.hf s.cf
  obtain ⟨hz, hn, hh⟩ := daa8_flags s.regs.a s.nf s.hf s.cf
  refine ⟨encode_of_p1 rfl, _, computes_setA_setFlags (k := 0) (by simp) rfl (by simp) (fun _ => hn) (by simp) (by simp),
    hv, hasFlags_of rfl ?_ hn hh hc⟩
  rw [hz, byte_beq_zero]
  have hr : ((daa8 s.regs.a s.nf s.hf s.cf).val.toNat : Int) = r := hv
  rw [← hr]
  simp only [Int.natCast_eq_zero]

end Sys2Proof

namespace Sys2Proof.Machine

theorem exec_daa (s : State) : exec .daa s = .next (decimalAdjust s) := rfl

/-- DAA sees A and the flags that the ALU operation before it left. -/
theorem decimalAdjust_applyAlu {op : AluOp} (v : Byte) (s : State) (h : op ≠ .cp) :
    let o := alu8 op s.regs.a v s.cf
    (decimalAdjust (applyAlu op v s)).regs.a = (daa8 o.val o.n o.h o.c).val ∧
      (decimalAdjust (applyAlu op v s)).cf = (daa8 o.val o.n o.h o.c).c := by
  rw [applyAlu_of_ne_cp v s h]
  simp only [decimalAdjust, State.setAluFlags, setFlags_a, setReg_a_same, nf_setFlags, hf_setFlags, cf_setFlags, and_self]

theorem decimalByte_toNat {x : Nat} (h : x < 100) : (decimalByte x).toNat = 16 * (x / 10) + x % 10 := by
  unfold decimalByte
  rw [BitVec.toNat_ofNat]
  omega

/-- A byte is a decimal byte when its number is. -/
theorem eq_decimalByte {v : Byte} {x : Nat} (h : x < 100) (hv : (v.toNat : Int) = 16 * (x / 10) + x % 10) :
    v = decimalByte x := by
  apply BitVec.eq_of_toNat_eq
  rw [decimalByte_toNat h]
  omega

/-- The decimal digits of a number below 100. -/
theorem exists_digits {x : Nat} (h : x < 100) : ∃ p q, p < 10 ∧ q < 10 ∧ x = 10 * p + q :=
  ⟨x / 10, x % 10, by omega, by omega, by omega⟩

theorem decimalByte_digits_toNat {p q : Nat} (hp : p < 10) (hq : q < 10) : (decimalByte (10 * p + q)).toNat = 16 * p + q := by
  rw [decimalByte_toNat (by omega)]
  omega

/-- DAA after an addition of decimal bytes: the decimal sum, and C where it passes 99. The correction 0x60 is made where the sum
passes 99, and 0x06 where the sum of the low digits passes 9. -/
theorem daa8_add8 {x y : Nat} (hx : x < 100) (hy : y < 100) :
    let o := add8 (decimalByte x) (decimalByte y) false
    (daa8 o.val o.n o.h o.c).val = decimalByte ((x + y) % 100) ∧ (daa8 o.val o.n o.h o.c).c = decide (100 ≤ x + y) := by
  intro o
  obtain ⟨p, q, hp, hq, rfl⟩ := exists_digits hx
  obtain ⟨p', q', hp', hq', rfl⟩ := exists_digits hy
  have hval : o.val.toNat = (16 * p + q + (16 * p' + q')) % 256 := by
    rw [add8_val, decimalByte_digits_toNat hp hq, decimalByte_digits_toNat hp' hq']
    rfl
  have hlow : (o.h || decide (9 < o.val.toNat % 16)) = decide (10 ≤ q + q') := by
    rw [add8_h, hval, decimalByte_digits_toNat hp hq, decimalByte_digits_toNat hp' hq', ← Bool.decide_or,
      decide_eq_decide, Bool.toNat_false]
    omega
  have hhigh : (o.c || decide (0x99 < o.val.toNat)) = decide (100 ≤ 10 * p + q + (10 * p' + q')) := by
    have hc : o.c = decide (255 < (decimalByte (10 * p + q)).toNat + (decimalByte (10 * p' + q')).toNat) := rfl
    rw [hc, hval, decimalByte_digits_toNat hp hq, decimalByte_digits_toNat hp' hq', ← Bool.decide_or, decide_eq_decide]
    omega
  obtain ⟨hv, hcarry⟩ := daa8_val o.val o.n o.h o.c
  rw [show o.n = false from rfl] at hv hcarry ⊢
  simp only [Bool.not_false, Bool.true_and, Bool.false_eq_true, if_false, hlow, hhigh, decide_eq_true_eq] at hv hcarry
  refine ⟨eq_decimalByte (Nat.mod_lt _ (by decide)) ?_, hcarry⟩
  have hmod : (10 * p + q + (10 * p' + q')) % 100 =
      if 100 ≤ 10 * p + q + (10 * p' + q') then 10 * p + q + (10 * p' + q') - 100 else 10 * p + q + (10 * p' + q') := by
    split_ifs <;> omega
  rw [hv, hval, hmod]
  split_ifs <;> omega

/-- DAA after a subtraction of decimal bytes: the decimal difference, and C where it borrows. The correction 0x60 is made where the
whole borrows, and 0x06 where the low digit does. -/
theorem daa8_sub8 {x y : Nat} (hx : x < 100) (hy : y < 100) :
    let o := sub8 (decimalByte x) (decimalByte y) false
    (daa8 o.val o.n o.h o.c).val = decimalByte ((x + 100 - y) % 100) ∧ (daa8 o.val o.n o.h o.c).c = decide (x < y) := by
  intro o
  obtain ⟨p, q, hp, hq, rfl⟩ := exists_digits hx
  obtain ⟨p', q', hp', hq', rfl⟩ := exists_digits hy
  have hval : (o.val.toNat : Int) = (16 * p + q - (16 * p' + q')) % 256 := by
    rw [sub8_val, decimalByte_digits_toNat hp hq, decimalByte_digits_toNat hp' hq', Bool.toNat_false]
    omega
  have hlow : o.h = decide (q < q') := by
    rw [sub8_h, decimalByte_digits_toNat hp hq, decimalByte_digits_toNat hp' hq', decide_eq_decide, Bool.toNat_false]
    omega
  have hhigh : o.c = decide (10 * p + q < 10 * p' + q') := by
    have hc : o.c = decide ((decimalByte (10 * p + q)).toNat < (decimalByte (10 * p' + q')).toNat) := rfl
    rw [hc, decimalByte_digits_toNat hp hq, decimalByte_digits_toNat hp' hq', decide_eq_decide]
    omega
  obtain ⟨hv, hborrow⟩ := daa8_val o.val o.n o.h o.c
  rw [show o.n = true from rfl, hlow, hhigh] at hv hborrow ⊢
  simp only [Bool.not_true, Bool.false_and, Bool.or_false, if_true, decide_eq_true_eq] at hv hborrow
  refine ⟨eq_decimalByte (Nat.mod_lt _ (by decide)) ?_, hborrow⟩
  rw [hv, hval]
  split_ifs <;> omega

/-- Settles O18: DAA adjusts the binary sum or difference of two decimal bytes to the decimal one. -/
theorem decimalArithmetic : Obligations.DecimalArithmetic := by
  intro x y s hx hy ha
  obtain ⟨hsum, hcarry⟩ := decimalAdjust_applyAlu (op := .add) (decimalByte y) s (by simp)
  obtain ⟨hdiff, hborrow⟩ := decimalAdjust_applyAlu (op := .sub) (decimalByte y) s (by simp)
  rw [ha] at hsum hcarry hdiff hborrow
  exact ⟨⟨_, _, exec_rowAluImm .add _ s, exec_daa _, hsum.trans (daa8_add8 hx hy).1, hcarry.trans (daa8_add8 hx hy).2⟩,
    ⟨_, _, exec_rowAluImm .sub _ s, exec_daa _, hdiff.trans (daa8_sub8 hx hy).1, hborrow.trans (daa8_sub8 hx hy).2⟩⟩

/-! ### The accumulator operations -/

/-- An accumulator rotate is a rotate of A with Z written 0 (R273-R276). -/
theorem computes_rotA {i : Instr} {op : RotOp} {s : State} (he : exec i s = .next (rotA op s)) :
    ∃ t, computes i [.r8 .a] [.z, .n, .h, .c] 0 s t ∧ t.regs.a.toNat = rotated op s.regs.a.toNat s.cf.toNat ∧
      hasFlags t false false false (rotatedOut op s.regs.a.toNat) :=
  ⟨_, computes_setA_setFlags (k := 0) (by simp) he (by simp) (by simp) (by simp) (by simp), rot8_val op s.regs.a s.cf,
    hasFlags_of rfl rfl (rot8_n _ _ _) (rot8_h _ _ _) (rot8_c _ _ _)⟩

/-- Settles O19: each operation is a write of the flags, after a write of A for CPL and the rotates. -/
theorem accumulatorOperations : Obligations.AccumulatorOperations := fun s =>
  ⟨⟨encode_of_p1 rfl, _, computes_setA_setFlags (k := 0) (by simp) rfl (fun _ => rfl) (by simp) (by simp) fun _ => rfl,
      BitVec.toNat_not, hasFlags_setFlags _ _ _ _ _⟩,
    ⟨encode_of_p1 rfl, _, computes_setFlags (k := 0) (by simp) rfl (fun _ => rfl) (by simp) (by simp) (by simp),
      hasFlags_setFlags _ _ _ _ _⟩,
    ⟨encode_of_p1 rfl, _, computes_setFlags (k := 0) (by simp) rfl (fun _ => rfl) (by simp) (by simp) (by simp),
      hasFlags_setFlags _ _ _ _ _⟩,
    encode_of_p1 rfl, computes_rotA rfl, encode_of_p1 rfl, computes_rotA rfl,
    encode_of_p1 rfl, computes_rotA rfl, encode_of_p1 rfl, computes_rotA rfl⟩

/-! ### ADD and SUB undo each other -/

/-- SUB of the operand just added gives the A there was (R240). -/
theorem applyAlu_sub_add (v : Byte) (s : State) : (applyAlu .sub v (applyAlu .add v s)).regs.a = s.regs.a := by
  rw [applyAlu_a v _ (by simp), applyAlu_a v s (by simp)]
  apply BitVec.eq_of_toNat_eq
  have hsub := sub8_val (add8 s.regs.a v false).val v false
  rw [add8_val, Bool.toNat_false] at hsub
  show (sub8 (add8 s.regs.a v false).val v false).val.toNat = _
  omega

/-- The ALU group writes no register but A. -/
theorem reg_applyAlu_of_ne_a (op : AluOp) (v : Byte) (s : State) {r : R8} (h : r ≠ .a) : (applyAlu op v s).reg r = s.reg r := by
  by_cases hop : op = .cp
  · subst hop
    exact reg_setAluFlags s r _
  · rw [applyAlu_of_ne_cp v s hop, reg_setAluFlags, reg_setReg_ne s .a r _ h]

/-- Settles O20: the operand of SUB is the operand of ADD, because ADD writes only A. -/
theorem addThenSubtract : Obligations.AddThenSubtract := by
  refine ⟨fun v s => ⟨_, _, exec_rowAluImm .add v s, exec_rowAluImm .sub v _, applyAlu_sub_add v s⟩,
    fun r s hr => ⟨_, _, exec_rowAlu .add (.reg r) s, exec_rowAlu .sub (.reg r) _, ?_⟩⟩
  show (applyAlu .sub ((applyAlu .add (s.reg r) s).reg r) (applyAlu .add (s.reg r) s)).regs.a = s.regs.a
  rw [reg_applyAlu_of_ne_a .add (s.reg r) s hr, applyAlu_sub_add]

end Sys2Proof.Machine

/-! ### 16-bit arithmetic -/

namespace Sys2Proof.Machine

theorem incPair_eq (p : R16) (s : State) : incPair p s = s.tick.setPair p (s.pair p + 1) := by
  rw [← pair_tick s p]
  rfl

theorem decPair_eq (p : R16) (s : State) : decPair p s = s.tick.setPair p (s.pair p - 1) := by
  rw [← pair_tick s p]
  rfl

/-- What an instruction that is one tick and a write of `w` to one pair computes (R281, R282). -/
theorem computes_tick_setPair {i : Instr} {p : R16} {w : Word} {s : State} (he : exec i s = .next (s.tick.setPair p w)) :
    ∃ t, computes i (pairRegs p) [] 1 s t ∧ t.pair p = w := by
  rw [setPair_withRegs p w s s.tick rfl] at he
  exact ⟨_, computes_setPair (n := 1) he, (pair_congr rfl p).trans (pair_setPair_same s p w)⟩

/-- What an instruction that is `k` ticks and a write of one pair and the flags computes. -/
theorem computes_setPair_setFlags {i : Instr} {p : R16} {w : Word} {z n h c : Bool} {fs : List Flag} {k : Nat} {s : State}
    (hne : fs ≠ []) (he : exec i s = .next { s.ticks k with regs := ((s.setPair p w).setFlags z n h c).regs })
    (hz : .z ∉ fs → z = s.zf) (hn : .n ∉ fs → n = s.nf) (hh : .h ∉ fs → h = s.hf) (hc : .c ∉ fs → c = s.cf) :
    computes i (pairRegs p) fs k s { s.ticks k with regs := ((s.setPair p w).setFlags z n h c).regs } :=
  computes_of _ he (setPair_pc s p w)
    (keepsRegs_trans (keepsRegs_setPair p w s) (keepsRegs_mono (by simp) (keepsRegs_setFlags z n h c _)))
    (keepsFlags_congr_f (t := s.setFlags z n h c) rfl (keepsFlags_setFlags z n h c s hne hz hn hh hc))

/-- `ADD HL,rr` is one tick, then the sum in HL and its flags, Z written with its old value (R283). -/
theorem addHl_eq (p : R16) (s : State) : addHl p s =
    { s.ticks 1 with regs := ((s.setPair .hl (addWords (s.pair .hl) (s.pair p)).val).setFlags s.zf false
        (addWords (s.pair .hl) (s.pair p)).h (addWords (s.pair .hl) (s.pair p)).c).regs } := rfl

/-- Settles O21: INC and DEC write the pair one up or one down, and ADD HL writes the sum and its flags to HL. -/
theorem pairArithmetic : Obligations.PairArithmetic := by
  intro p s a b
  refine ⟨⟨encode_of_p1 (primaryRow_incPair p), ?inc⟩, ⟨encode_of_p1 (primaryRow_decPair p), ?dec⟩,
    ⟨encode_of_p1 (primaryRow_addHl p), ?add⟩⟩
  case inc =>
    obtain ⟨t, ht, hp⟩ := computes_tick_setPair ((exec_rowIncPair p s).trans (congrArg _ (incPair_eq p s)))
    exact ⟨t, ht, (congrArg BitVec.toNat hp).trans (BitVec.toNat_add (s.pair p) 1)⟩
  case dec =>
    obtain ⟨t, ht, hp⟩ := computes_tick_setPair ((exec_rowDecPair p s).trans (congrArg _ (decPair_eq p s)))
    refine ⟨t, ht, (congrArg BitVec.toNat hp).trans ?_⟩
    rw [BitVec.toNat_sub, Nat.add_comm]
    rfl
  case add =>
    have he := (exec_rowAddHl p s).trans (congrArg _ (addHl_eq p s))
    refine ⟨_, computes_setPair_setFlags (by simp) he (fun _ => rfl) (by simp) (by simp) (by simp), ?_,
      hasFlags_of rfl rfl rfl (addWords_h _ _) rfl⟩
    exact (congrArg BitVec.toNat (pair_setPair_same s .hl _)).trans (addWords_val _ _)

end Sys2Proof.Machine

/-! ### Control transfer: jumps, calls and returns -/

namespace Sys2Proof.Machine

/-- A conditional row answers one of the two states its condition chooses between (R300). -/
theorem taken_or_not {i : Instr} {b : Bool} {s t u : State} {P : Prop} (he : exec i s = .next (if b then t else u))
    (taken : exec i s = .next t → P) : if b then P else exec i s = .next u := by
  cases b with
  | false => exact he
  | true => exact taken he

/-- Ticks and a write of PC change nothing else. -/
theorem frame_ticks_setPc (n : Nat) (a : Word) (s : State) : frame [] [] n s ((s.ticks n).setPc a) := by
  unfold State.setPc
  rw [ticks_regs]
  exact frame_withRegs s n _ (keepsRegs_setPc a s) (keepsFlags_of_f rfl)

/-- The target of a relative jump, in arithmetic: it wraps at 65536 (R304). -/
theorem add_sext16 (pc : Word) (e : Byte) : pc + sext16 e = BitVec.ofInt 16 (pc.toNat + signedByte e) := by
  have sum : ((pc + sext16 e).toNat : Int) = (pc.toNat + signedByte e) % 65536 := spPlusE8_val pc e
  apply BitVec.eq_of_toNat_eq
  rw [BitVec.toNat_ofInt]
  omega

/-- `JR e8` is one tick and a write of that target to PC (R304). -/
theorem jumpRel_eq (e : Byte) (s : State) :
    jumpRel e s = (s.ticks 1).setPc (BitVec.ofInt 16 (s.regs.pc.toNat + signedByte e)) :=
  congrArg s.tick.setPc (add_sext16 s.regs.pc e)

/-- Settles O22: a jump taken is a write of PC after at most one tick, and a jump not taken is the state itself. -/
theorem jumps : Obligations.Jumps := by
  intro s jumpsTo holds relative
  have absolute {i : Instr} {n : Nat} {a : Word} (he : exec i s = .next ((s.ticks n).setPc a)) : jumpsTo i n a :=
    ⟨_, he, rfl, frame_ticks_setPc n a s⟩
  have signed {i : Instr} {e : Byte} (he : exec i s = .next (jumpRel e s)) : jumpsTo i 1 (relative e) :=
    absolute (he.trans (congrArg _ (jumpRel_eq e s)))
  have holds_eq (cc : Cond) : holds cc = s.cond cc := by cases cc <;> rfl
  simp only [holds_eq]
  exact ⟨fun lo hi => ⟨encode_of_p3_append rfl hi lo, absolute rfl⟩,
    fun cc lo hi => ⟨encode_of_p3_append (primaryRow_jpIf cc) hi lo,
      taken_or_not (exec_rowJpIf cc (hi ++ lo) s) (absolute (n := 1))⟩,
    ⟨encode_of_p1 rfl, absolute rfl⟩,
    fun e => ⟨encode_of_p2 rfl e, signed rfl⟩,
    fun cc e => ⟨encode_of_p2 (primaryRow_jrIf cc) e, taken_or_not (exec_rowJrIf cc e s) signed⟩⟩

/-- A write of PC is within every frame. -/
theorem storeFrame_setPc {rs : List FrameReg} {fs : List Flag} {as : List Word} {n : Nat} {s t : State} (a : Word)
    (h : storeFrame rs fs as n s t) : storeFrame rs fs as n s (t.setPc a) := by
  obtain ⟨hr, hf, rest⟩ := h
  exact ⟨keepsRegs_trans hr (keepsRegs_mono (by simp) (keepsRegs_setPc a t)),
    keepsFlags_trans hf (keepsFlags_of_f rfl), rest⟩

/-- Settles O23: a call is one tick, a push of PC and a write of PC, and a call not taken is the state itself. -/
theorem calls : Obligations.Calls := by
  intro s callsTo
  have called {i : Instr} {a : Word} (he : exec i s = .next (call a s)) : callsTo i a :=
    ⟨_, rfl, he.trans (congrArg _ (call_eq a s)), storeFrame_setPc a (pushed_tick_storeFrame s.regs.pc s)⟩
  exact ⟨fun lo hi => ⟨encode_of_p3_append rfl hi lo, called rfl⟩,
    fun cc lo hi => ⟨encode_of_p3_append (primaryRow_callIf cc) hi lo, taken_or_not (exec_rowCallIf cc (hi ++ lo) s) called⟩,
    fun n => ⟨encode_of_p1 (primaryRow_rst n), called (exec_rowRst n s)⟩⟩

/-- Ticks and a write of SP and PC change nothing else. -/
theorem frame_ticks_sp_pc (n : Nat) (sp a : Word) (s : State) :
    frame [.sp] [] n s { s.ticks n with regs := { s.regs with sp := sp, pc := a } } :=
  frame_withRegs s n _
    (keepsRegs_trans (keepsRegs_setPair .sp sp s) (keepsRegs_mono (by simp) (keepsRegs_setPc a (s.setPair .sp sp))))
    (keepsFlags_of_f rfl)

/-- The tick of `RET cc` leaves its condition as it was (R309). -/
theorem retIf_eq (cc : Cond) (s : State) : retIf cc s = if s.cond cc then ret s.tick else s.tick := by
  unfold retIf
  dsimp only
  rw [cond_tick]

/-- `RETI` is `RET` and the master enable set at once (R310). -/
theorem exec_reti (s : State) : exec .reti s = .next { ret s with ime := true, imeState := .stable } := rfl

/-- Settles O24: PC is the word on top of the stack, after the tick that `RET cc` takes before its condition. -/
theorem returns : Obligations.Returns := by
  intro s returnsTo
  have popped {i : Instr} {n : Nat} {a : Word}
      (he : exec i s = .next { s.ticks n with regs := { s.regs with sp := s.regs.sp + 2, pc := a } }) : returnsTo i n a :=
    ⟨_, he, rfl, rfl, frame_ticks_sp_pc n _ a s⟩
  refine ⟨⟨encode_of_p1 rfl, popped (congrArg _ (ret_eq s))⟩, fun cc => ⟨encode_of_p1 (primaryRow_retIf cc), ?_⟩,
    ⟨encode_of_p1 rfl, ret s, _, rfl, exec_reti s, rfl⟩⟩
  have he := (exec_rowRetIf cc s).trans (congrArg _ (retIf_eq cc s))
  exact taken_or_not he fun taken => popped (taken.trans (congrArg _ (ret_eq s.tick)))

/-- The bus does not read PC. -/
theorem stackTop_setPc (a : Word) (s : State) : stackTop (s.setPc a) = stackTop s :=
  congrArg₂ (· ++ ·) (routeRead_withRegs _ s.tick _) (routeRead_withRegs _ s _)

/-- Settles O25: the return pops the PC that the call pushed, and SP goes down and up by two. -/
theorem callThenReturn : Obligations.CallThenReturn := by
  intro a s hs h1 h2
  have top : stackTop (call a s) = s.regs.pc := by
    rw [call_eq, stackTop_setPc]
    exact stackTop_pushed_open s.regs.pc s.tick hs h1 h2
  have sp : (call a s).regs.sp = s.regs.sp - 2 := by
    rw [call_eq]
    exact congrArg Regs.sp (pushed_regs s.regs.pc s.tick)
  refine ⟨call a s, ret (call a s), rfl, rfl, rfl, ?_, ?_⟩
  · rw [ret_eq]
    exact top
  · rw [ret_eq]
    exact (congrArg (· + 2) sp).trans (BitVec.sub_add_cancel _ _)

end Sys2Proof.Machine

/-! ### System instructions: the whole next state of each, the fault of STOP, and the escape byte -/

namespace Sys2Proof.Machine

/-- `HALT` enters the Bug state when an interrupt is pending with the master enable clear, else the On state (R331). -/
theorem halt_eq (s : State) : halt s = { s with halt := if s.ime = false ∧ s.pending = true then .bug else .on } := by
  simp [halt]

/-- `EI` requests the enable only when the master enable is clear and no enable is under way (R334). -/
theorem enableInterrupts_eq (s : State) : enableInterrupts s =
    if s.ime = false ∧ s.imeState = .stable then { s with imeState := .enableRequested } else s := by
  simp [enableInterrupts]

/-- Settles O26: each row is its opcode alone, and its meaning is one update of the state. -/
theorem systemInstructions : Obligations.SystemInstructions := fun s =>
  ⟨⟨encode_of_p1 rfl, rfl⟩, ⟨encode_of_p1 rfl, rfl⟩, ⟨encode_of_p1 rfl, congrArg Host.Outcome.next (enableInterrupts_eq s)⟩,
    ⟨encode_of_p1 rfl, congrArg Host.Outcome.next (halt_eq s)⟩⟩

/-- With `STOP_MODE = fault`, STOP records the fault with its opcode and the opcode's address (R332). -/
theorem exec_stop_fault {s : State} (h : s.params.stopMode = .fault) :
    exec .stop s = .next (raiseFault (.unmodelled 0x10 s.opPc) s) := by
  have stops : stop s = raiseFault (.unmodelled 0x10 s.opPc) s := by rw [stop, h]
  exact congrArg Host.Outcome.next stops

/-- With `STOP_MODE = nop2`, STOP is one tick and PC past one more byte (R332). -/
theorem exec_stop_nop2 {s : State} (h : s.params.stopMode = .nop2) :
    exec .stop s = .next ((s.ticks 1).setPc (s.regs.pc + 1)) := by
  have stops : stop s = (fetch8 s).2 := by rw [stop, h]
  exact congrArg Host.Outcome.next stops

/-- Settles O30: the byte fetched selects a row of the secondary map, which decode selects too. -/
theorem escapeByte : Obligations.EscapeByte := fun s =>
  ⟨rfl, secondaryRow (routeRead s.regs.pc s), decode_eq_ok_iff.2 (.cb _ [] rfl), exec_next .prefixCb s, exec_prefixCb s⟩

end Sys2Proof.Machine

/-! ### STOP (in this namespace because `Machine.stop` is the model's operation) -/

namespace Sys2Proof

open Sys2Proof.Machine

/-- Settles O27: the meaning in each mode, then the step of a row that is its opcode alone. -/
theorem stop : Obligations.Stop := by
  intro s
  refine ⟨encode_of_p1 rfl, exec_stop_fault, fun nop2 => ⟨_, exec_stop_nop2 nop2, rfl, frame_ticks_setPc 1 _ s⟩,
    fun mode hf hh hp hread => ?_⟩
  have fetchedMode : (afterOpcode s).params.stopMode = .fault := mode
  have runs := step_of_p1 hf hh hp (i := .stop) (by rw [hread]; rfl)
  rw [exec_stop_fault fetchedMode] at runs
  exact ⟨runs, step_faulted _ _ rfl⟩

end Sys2Proof

/-! ### The rows of the secondary map: a read-modify-write of the operand, or a test of one of its bits -/

namespace Sys2Proof.Machine

/-- A row of the secondary map encodes to the escape byte and its own byte (R154). -/
theorem encode_of_cb {b : Byte} {i : Instr} (h : secondaryRow b = i) : encode i = [0xCB, b] := by
  rw [← h, encode_secondaryRow]

/-- Rotates and shifts have one argument: a row of the group writes back the rotated operand and then the flags (R350-R366). -/
theorem encode_and_exec_rowRot (op : RotOp) (x : Opnd8) (s : State) :
    encode (.rowRot op x) = [0xCB, 8 * op.code + x.code] ∧
    ∃ w t, exec (.rowRot op x) s = .next t ∧ t = (afterOpnd x w s).withF t.regs.f ∧
      w.toNat = rotated op (opndVal x s).toNat s.cf.toNat ∧ opndFrame x [.z, .n, .h, .c] s t ∧
      hasFlags t (decide (w = 0)) false false (rotatedOut op (opndVal x s).toNat) := by
  refine ⟨encode_of_cb (secondaryRow_rot op x), (rot8 op (opndVal x s) s.cf).val, _,
    (exec_rowRot op x s).trans (congrArg _ (rotOpnd_eq op x s)), rfl, rot8_val op (opndVal x s) s.cf, ?frame,
    hasFlags_of rfl ?z (rot8_n _ _ _) (rot8_h _ _ _) (rot8_c _ _ _)⟩
  case frame => exact opndFrame_setFlags x _ _ _ _ _ s (by simp) (by simp) (by simp) (by simp) (by simp)
  case z => exact (rot8_z op (opndVal x s) s.cf).trans (beq_eq_decide _ _)

/-- Settles O31: the four rotates are rows of the rotate and shift group. -/
theorem rotates : Obligations.Rotates := fun x s op _ => encode_and_exec_rowRot op x s

/-- Settles O32: the four shifts are rows of the rotate and shift group. -/
theorem shifts : Obligations.Shifts := fun x s op _ => encode_and_exec_rowRot op x s

/-- A bit of a byte is clear when the byte divided by the bit's weight is even (R367). -/
theorem not_getLsbD_eq_decide (v : Byte) (k : Nat) : (!v.getLsbD k) = decide (v.toNat / 2 ^ k % 2 = 0) := by
  rw [BitVec.getLsbD, Nat.testBit_eq_decide_div_mod_eq, ← decide_not, decide_eq_decide]
  omega

/-- Settles O33: a bit test is the operand's read and a write of the flags, C with its old value. -/
theorem bitTests : Obligations.BitTests := fun b x s =>
  ⟨encode_of_cb (secondaryRow_bit b x), _,
    computes_setFlags (by simp) ((exec_rowBit b x s).trans (congrArg _ (bitTest_eq b x s))) (by simp) (by simp) (by simp)
      fun _ => rfl,
    hasFlags_of rfl (not_getLsbD_eq_decide (opndVal x s) b.val) rfl rfl rfl⟩

/-- The mask of a bit has that bit and no other (R369, R371). -/
theorem getLsbD_bitMask (b : Fin 8) (k : Nat) : (bitMask b).getLsbD k = decide (k = b.val) := by
  have twoPow : bitMask b = BitVec.twoPow 8 b.val := rfl
  rw [twoPow, BitVec.getLsbD_twoPow, Bool.eq_iff_iff]
  simp only [Bool.and_eq_true, decide_eq_true_eq]
  omega

/-- A read-modify-write of an operand with no flags after it (R369-R372). -/
theorem opndFrame_afterOpnd (x : Opnd8) (w : Byte) (s : State) : opndFrame x [] s (afterOpnd x w s) := by
  cases x with
  | reg r =>
    rw [afterOpnd, setReg_withRegs]
    exact frame_withRegs s 0 _ (keepsRegs_setReg r w s) (keepsFlags_of_f (setReg_f s r w))
  | hlInd => exact storeFrame_of_busRun (BusRun.start.tick.memWrite _ _)

/-- Settles O34: each row writes back the operand with the bit's mask cleared or set in it. -/
theorem bitWrites : Obligations.BitWrites := by
  intro b x s puts
  have put {i : Instr} {w : Byte} {one : Bool} (he : exec i s = .next (afterOpnd x w s))
      (bits : ∀ k, k < 8 → w.getLsbD k = if k = b.val then one else (opndVal x s).getLsbD k) : puts i one :=
    ⟨w, he, opndFrame_afterOpnd x w s, bits⟩
  refine ⟨encode_of_cb (secondaryRow_res b x), put ((exec_rowRes b x s).trans (congrArg _ (bitReset_eq b x s))) ?res,
    encode_of_cb (secondaryRow_set b x), put ((exec_rowSet b x s).trans (congrArg _ (bitSet_eq b x s))) ?set⟩
  case res =>
    intro k hk
    rw [BitVec.getLsbD_and, BitVec.getLsbD_not, getLsbD_bitMask]
    by_cases hkb : k = b.val <;> simp [hk, hkb]
  case set =>
    intro k _
    rw [BitVec.getLsbD_or, getLsbD_bitMask]
    by_cases hkb : k = b.val <;> simp [hkb]

end Sys2Proof.Machine

/-! ### What a step runs, and what it answers -/

namespace Sys2Proof.Machine

/-- What three bytes decode to is well formed: with a byte after it, the escape byte is no row of its own (R160). -/
theorem wellFormed_of_decode_three {op x y : Byte} {i : Instr} {rest : List Byte} (h : decode [op, x, y] = .ok (i, rest)) :
    i.wellFormed = true := by
  rw [← Bool.not_eq_false, wellFormed_eq_false_iff]
  rintro rfl
  exact absurd (decode_eq_prefixCb h) (by simp)

/-- The fetch that begins a step of a running machine (R150-R152). -/
theorem fetchBytes_begin_running {s : State} (hb : s.halt ≠ .bug) : fetchBytes { s with stepCycles := 0 } =
    (instrBytes (routeRead s.regs.pc s) (routeRead (s.regs.pc + 1) s.tick) (routeRead (s.regs.pc + 2) s.tick.tick),
     afterFetch (operandCount (routeRead s.regs.pc s) + 1) s) := by
  rw [fetchBytes_running { s with stepCycles := 0 } hb]
  dsimp only
  rw [routeRead_withStepCycles]
  exact congrArg₂ (fun x y => (instrBytes _ x y, _)) (routeRead_withStepCycles _ 1 s.tick)
    (routeRead_withStepCycles _ 2 s.tick.tick)

/-- Settles O35: the step fetches the instruction that the three bytes begin with. -/
theorem stepRunsDecodedInstruction : Obligations.StepRunsDecodedInstruction := by
  intro s i rest hf off hp h
  refine ⟨wellFormed_of_decode_three h, ?_⟩
  have fetched := fetchBytes_begin_running (s := s) (by rw [off]; exact nofun)
  have own := (decode_three _ _ _ i rest h).1
  rw [step_eq_fetchExecute hf (by rw [off]; exact nofun) hp, fetchExecute_of_decode (by rw [fetched]; exact own), fetched,
    encode_length_of_decode h]

/-- Settles O37: a halted step is one tick, and fetch and execute answer a next state. -/
theorem stepCompletes : Obligations.StepCompletes := by
  refine fun s => ⟨fun hf => ?_, step_faulted s⟩
  by_cases hh : (beginStep s).halt = .on
  · exact ⟨_, step_halted s hf hh⟩
  · obtain ⟨_, _, -, -, next⟩ := fetchExecute_eq (beginStep s)
    exact ⟨_, (step_running s hf hh).trans next⟩

/-- Settles O38: the interrupt check leaves a halted machine alone with nothing pending, and wakes it with a request pending. -/
theorem haltedSteps : Obligations.HaltedSteps := by
  intro s hf on
  refine ⟨fun hp => ?_, fun hp hi => ?_⟩
  · have begins := beginStep_idle s hp
    rw [step_halted s hf (by rw [begins]; exact on), begins]
  · have begins := beginStep_wakes s hp hi
    rw [if_pos on] at begins
    rw [step_running s hf (by rw [begins]; exact nofun), begins]
    exact (step_eq_fetchExecute (s := { s with halt := .off }) hf nofun (by dsimp only; rw [hi]; rfl)).symm

/-- STOP in the mode `nop2` records no fault (R332). -/
theorem stopMode_of_stop_fault {s t : State} (he : exec .stop s = .next t) (ht : t.fault ≠ s.fault) :
    s.params.stopMode = .fault := by
  cases mode : s.params.stopMode with
  | fault => rfl
  | nop2 =>
    rw [exec_stop_nop2 mode] at he
    cases he
    exact absurd (ticks_fault 1 s) ht

/-- Settles O29: of all that an instruction can do, only STOP and the undefined opcodes write the fault. -/
theorem onlyUndefinedAndStopFault : Obligations.OnlyUndefinedAndStopFault := by
  intro i s
  obtain ⟨t, he⟩ := exec_next i s
  refine ⟨t, he, fun ht => ?_⟩
  cases exec_effect he with
  | evolves h => exact absurd h.fault_eq ht
  | reti _ h => exact absurd h.fault_eq ht
  | di | ei | halt => exact absurd rfl ht
  | fault h =>
    rcases h with rfl | undefined
    · exact .inr ⟨rfl, stopMode_of_stop_fault he ht⟩
    · exact .inl undefined

/-- Settles O41: of all that an instruction can do, only DI, EI and RETI write the master enable or its latency. -/
theorem onlyDiEiRetiWriteIme : Obligations.OnlyDiEiRetiWriteIme := by
  intro i s t notDi notEi notReti he
  cases exec_effect he with
  | evolves h => exact h.keepsIme
  | di h => exact absurd h notDi
  | ei h => exact absurd h notEi
  | reti h => exact absurd h notReti
  | halt | fault => exact ⟨rfl, rfl⟩

/-! ### The latency of EI -/

theorem keepsIme_afterFetch (n : Nat) (s : State) : keepsIme s (afterFetch n s) := ⟨ticks_ime n _, ticks_imeState n _⟩

/-- An instruction other than DI that starts with the enable about to take effect, and does not fault, leaves it to the advance or has
enabled already (R406). -/
theorem Effect.enables {i : Instr} {s t : State} (h : Effect i s t) (notDi : i ≠ .di) (now : s.imeState = .enableNow)
    (ht : t.fault = none) : (advanceIme t).ime = true ∧ (advanceIme t).imeState = .stable := by
  have advanced {u : State} (hu : u.imeState = .enableNow) : (advanceIme u).ime = true ∧ (advanceIme u).imeState = .stable := by
    unfold advanceIme
    rw [hu]
    exact ⟨rfl, rfl⟩
  cases h with
  | evolves he => exact advanced (he.keepsIme.2.trans now)
  | di h => exact absurd h notDi
  | ei _ _ stable => rw [now] at stable; cases stable
  | reti => exact ⟨rfl, rfl⟩
  | halt => exact advanced now
  | fault => cases ht

/-- A step that ends without a fault ends with the latency advance (R403, R406). -/
theorem eq_advanceIme_of_finishStep {u t : State} (h : finishStep (.next u) = .next t) (ht : t.fault = none) :
    u.fault = none ∧ t = advanceIme u := by
  rw [finishStep] at h
  cases h
  by_cases hu : u.fault = none
  · exact ⟨hu, if_pos hu⟩
  · rw [if_neg hu] at ht
    exact absurd ht hu

/-- Settles O40: EI's request is advanced once in its own step; the next step takes no interrupt, since IME is still 0, and advances
it again. -/
theorem enableLatency : Obligations.EnableLatency := by
  refine ⟨fun s u hi stable hf he => ?_, fun u i rest hi now hf off h => ?_⟩
  · have requests : exec .ei s = .next { s with imeState := .enableRequested } :=
      congrArg Host.Outcome.next ((enableInterrupts_eq s).trans (if_pos ⟨hi, stable⟩))
    rw [requests, finishStep, if_pos hf] at he
    cases he
    exact ⟨hi, rfl⟩
  · have runs := (stepRunsDecodedInstruction u i rest hf off (by rw [hi]; rfl) h).2
    refine ⟨runs, fun t notDi hstep ht => ?_⟩
    obtain ⟨v, he⟩ := exec_next i (afterFetch (encode i).length u)
    rw [runs, he] at hstep
    obtain ⟨hv, rfl⟩ := eq_advanceIme_of_finishStep hstep ht
    exact (exec_effect he).enables notDi ((keepsIme_afterFetch _ u).2.trans now) hv

/-! ### Taking an interrupt -/

/-- A request is pending exactly where some source is the lowest one requested and enabled (R420, R423). -/
theorem pending_iff (s : State) : s.pending = true ↔ ∃ k, isLowestRequest k s := by
  have pending : s.pending = true ↔ s.requests ≠ 0 := bne_iff_ne
  simp only [pending, isLowestRequest_iff, exists_and_left, exists_eq, and_true]

/-- A step that takes source `k` begins with its dispatch (R402, R425). -/
theorem beginStep_dispatched {s : State} {k : Nat} (hi : s.ime = true) (h : isLowestRequest k s) :
    beginStep s = dispatched k s := by
  rw [beginStep_taken s ((pending_iff s).2 ⟨k, h⟩) hi, dispatch_eq, ((isLowestRequest_iff s k).1 h).2]

/-- The state in which a dispatch pushes PC: the request cleared, the control fields written, no cycle charged yet (R425). -/
def acknowledged (k : Nat) (s : State) : State := { s with
  dev := { s.dev with ifr := s.dev.ifr &&& ~~~(1#5 <<< k) }
  ime := false, imeState := .stable, halt := .off, stepCycles := 0 }

/-- From there a dispatch has the frame of a push, and takes five cycles (R425, R227). -/
theorem dispatched_storeFrame (k : Nat) (s : State) :
    storeFrame [.sp] [] [s.regs.sp - 1, s.regs.sp - 2] 5 (acknowledged k s) (dispatched k s) := by
  have run := (pushed_busRun s.regs.pc (acknowledged k s)).ticks 3
  have e : (pushed s.regs.pc (acknowledged k s)).ticks 3 = { State.ticks 3 (memWrite (s.regs.sp - 2) (loByte s.regs.pc)
      (memWrite (s.regs.sp - 1) (hiByte s.regs.pc) (acknowledged k s))) with regs := { s.regs with sp := s.regs.sp - 2 } } := by
    rw [pushed_eq, ticks_withRegs]
    rfl
  show storeFrame _ _ _ _ _ (((pushed s.regs.pc (acknowledged k s)).ticks 3).setPc _)
  rw [e]
  exact storeFrame_setPc _ (run.storeFrame _ (keepsRegs_setPair .sp (s.regs.sp - 2) _) (keepsFlags_of_f rfl))

/-- Settles O39: the step begins with the dispatch, whose frame is a push's. -/
theorem interruptDispatch : Obligations.InterruptDispatch := by
  intro s
  refine ⟨pending_iff s, fun k hf hi h => ?_⟩
  have begins := beginStep_dispatched hi h
  obtain ⟨regs, flags, mem, ⟨ime, imeState⟩, ⟨halt, -⟩, -, -, cycles⟩ := dispatched_storeFrame k s
  have off : (dispatched k s).halt = .off := halt
  refine ⟨?_, cycles, rfl, ime, imeState, off, regs, flags, ?_, mem⟩
  · rw [step_running s hf (by rw [begins, off]; exact nofun), begins]
  · exact congrArg Regs.sp ((ticks_regs 3 _).trans (pushed_regs s.regs.pc (acknowledged k s)))

end Sys2Proof.Machine

/-! ### One cycle of the timer, in arithmetic -/

namespace Sys2Proof.Machine

/-- The four periods of TIMA (R64, R446). -/
theorem timaPeriod_cases (cs : BitVec 2) :
    timaPeriod cs = 1024 ∨ timaPeriod cs = 16 ∨ timaPeriod cs = 64 ∨ timaPeriod cs = 256 := by
  revert cs; decide

/-- A period is twice the weight of the bit that the clock select names (R64). -/
theorem timaPeriod_eq (cs : BitVec 2) : timaPeriod cs = 2 * 2 ^ clockSelect cs := by
  revert cs; decide

/-- Bit `k` of a number is set in the upper half of each period of `2 * 2 ^ k`. -/
theorem testBit_eq_decide_le_mod (n k : Nat) : n.testBit k = decide (2 ^ k ≤ n % (2 * 2 ^ k)) := by
  have pos : 0 < 2 ^ k := Nat.two_pow_pos k
  have high : n % (2 * 2 ^ k) / 2 ^ k = n / 2 ^ k % 2 := by rw [Nat.mul_comm, Nat.mod_mul_right_div_self]
  rw [Nat.testBit_eq_decide_div_mod_eq, decide_eq_decide, ← high, ← Nat.one_le_div_iff pos]
  have := Nat.mod_lt (n / 2 ^ k) (show 0 < 2 by decide)
  omega

/-- The edge detector's input by the counter's place in its period (R41, R441). -/
theorem signal_eq (t : Timer) : t.signal = (t.tac.getLsbD 2 &&
    decide (timaPeriod (t.tac.extractLsb' 0 2) / 2 ≤ t.counter.toNat % timaPeriod (t.tac.extractLsb' 0 2))) := by
  rw [timaPeriod_eq, Nat.mul_div_cancel_left _ (by decide), ← testBit_eq_decide_le_mod]
  rfl

/-- The enabled, selected bit falls in the next cycle of four clocks: the counter passes a multiple of the period (R441, R446). -/
def Timer.falls (t : Timer) : Bool :=
  t.tac.getLsbD 2 && decide (timaPeriod (t.tac.extractLsb' 0 2) / 2 ≤ t.counter.toNat % timaPeriod (t.tac.extractLsb' 0 2)) &&
    decide ((t.counter.toNat + 4) % timaPeriod (t.tac.extractLsb' 0 2) < timaPeriod (t.tac.extractLsb' 0 2) / 2)

/-- The timer after four clocks, before its edge check. -/
def Timer.advanced (t : Timer) : Timer := { t with counter := t.counter + 4 }

theorem advanced_counter (t : Timer) : t.advanced.counter.toNat = (t.counter.toNat + 4) % 65536 := BitVec.toNat_add _ _

/-- The falling edge that `TimerTick` counts (R440, R441). -/
theorem falls_eq (t : Timer) : t.falls = (t.signal && !t.advanced.signal) := by
  have same : t.advanced.tac = t.tac := rfl
  rw [signal_eq, signal_eq, advanced_counter, same, Timer.falls]
  generalize t.tac.getLsbD 2 = on
  generalize t.counter.toNat = c
  have wraps : (c + 4) % 65536 % timaPeriod (t.tac.extractLsb' 0 2) = (c + 4) % timaPeriod (t.tac.extractLsb' 0 2) := by
    rcases timaPeriod_cases (t.tac.extractLsb' 0 2) with h | h | h | h <;> rw [h] <;> omega
  simp only [wraps, ← Nat.not_le, decide_not]
  cases on <;> rfl

/-- The timer after a cycle of four clocks (R440-R442). -/
theorem timerTick_four_timer (d : Devices) (h : d.timer.edgeOk) : (d.timerTick 4).timer = { d.timer with
    counter := d.timer.counter + 4
    edge := d.timer.advanced.signal
    tima := if d.timer.falls then (if d.timer.tima = 0xFF then d.timer.tma else d.timer.tima + 1) else d.timer.tima } := by
  have edge : d.timer.edge = d.timer.signal := h
  rw [falls_eq, ← edge]
  exact timerEdge_timer true { d with timer := d.timer.advanced }

/-- The timer's request in a cycle of four clocks, and no other device's (R442). -/
theorem timerTick_four_bit (d : Devices) (h : d.timer.edgeOk) (k : Nat) : (d.timerTick 4).ifr.getLsbD k =
    (d.ifr.getLsbD k || (decide (k = 2) && d.timer.falls && d.timer.tima == 0xFF)) := by
  have edge : d.timer.edge = d.timer.signal := h
  have ifr : (d.timerTick 4).ifr = if (d.timer.falls && d.timer.tima == 0xFF) = true then (d.request 2).ifr else d.ifr := by
    rw [falls_eq, ← edge]
    refine (timerEdge_ifr true { d with timer := d.timer.advanced }).trans ?_
    simp [Timer.advanced]
  rw [ifr, Bool.and_assoc]
  cases d.timer.falls && d.timer.tima == 0xFF
  · simp
  · rw [if_pos rfl, getLsbD_request 2 k d (by decide), Bool.and_true]

/-- The timer after a cycle of four clocks: the display's part of the cycle does not touch it. -/
theorem tick_timer_four {s : State} (four : s.params.clocksPerCycle = 4) (h : s.dev.timer.edgeOk) :
    s.tick.dev.timer = { s.dev.timer with
      counter := s.dev.timer.counter + 4
      edge := s.dev.timer.advanced.signal
      tima := if s.dev.timer.falls then (if s.dev.timer.tima = 0xFF then s.dev.timer.tma else s.dev.timer.tima + 1)
        else s.dev.timer.tima } := by
  rw [tick_dev, tick_timer, four, timerTick_four_timer _ h]

/-- The timer's request after a cycle of four clocks, which the display does not touch. -/
theorem tick_timer_bit {s : State} (four : s.params.clocksPerCycle = 4) (h : s.dev.timer.edgeOk) :
    s.tick.dev.ifr.getLsbD 2 = (s.dev.ifr.getLsbD 2 || (s.dev.timer.falls && s.dev.timer.tima == 0xFF)) := by
  rw [tick_dev, four, Devices.tick, displayTick_bit 4 _ 2 (Nat.le_refl 2), timerTick_four_bit _ h]
  rfl

/-- Settles O43: the edge detector's input falls where the counter passes a multiple of the period. -/
theorem timerTick : Obligations.TimerTick := by
  intro s four h t t' c period falls
  have timer : t' = _ := tick_timer_four four h
  have edge : t'.edgeOk := tick_edgeOk _ _
  refine ⟨?_, edge, ?_, ?_, ?_, tick_timer_bit four h⟩ <;> rw [timer]
  · exact advanced_counter t
  · rfl

/-! ### An enabled timer over many cycles -/

/-- The cycles between two counts (R446). -/
def Timer.cyclesPerCount (t : Timer) : Nat := timaPeriod (t.tac.extractLsb' 0 2) / 4

theorem cyclesPerCount_pos (t : Timer) : 0 < t.cyclesPerCount := by
  unfold Timer.cyclesPerCount
  rcases timaPeriod_cases (t.tac.extractLsb' 0 2) with h | h | h | h <;> rw [h] <;> decide

/-- A timer whose counter stood at a multiple of the period `n` cycles ago counts in the next cycle exactly where that cycle ends a
period. -/
theorem falls_iff {t : Timer} {c n : Nat} (enabled : t.tac.getLsbD 2 = true) (start : c % (4 * t.cyclesPerCount) = 0)
    (now : t.counter.toNat = (c + 4 * n) % 65536) : t.falls = true ↔ t.cyclesPerCount ∣ n + 1 := by
  unfold Timer.cyclesPerCount at *
  rw [Timer.falls, enabled, now, Nat.dvd_iff_mod_eq_zero]
  simp only [Bool.true_and, Bool.and_eq_true, decide_eq_true_eq]
  rcases timaPeriod_cases (t.tac.extractLsb' 0 2) with h | h | h | h <;> rw [h] at start ⊢ <;> omega

section

variable {s : State} (four : s.params.clocksPerCycle = 4) (edge : s.dev.timer.edgeOk)
include four edge

/-- The counter after `n` cycles; the edge detector is right and the other registers are as they were (R440). -/
theorem ticks_counter (n : Nat) : (s.ticks n).dev.timer.counter.toNat = (s.dev.timer.counter.toNat + 4 * n) % 65536 ∧
    (s.ticks n).dev.timer.edgeOk ∧ (s.ticks n).dev.timer.tma = s.dev.timer.tma ∧
    (s.ticks n).dev.timer.tac = s.dev.timer.tac := by
  induction n with
  | zero => exact ⟨(Nat.mod_eq_of_lt s.dev.timer.counter.isLt).symm, edge, rfl, rfl⟩
  | succ n ih =>
    obtain ⟨counter, edge, tma, tac⟩ := ih
    have edge' : (s.ticks n).tick.dev.timer.edgeOk := tick_edgeOk _ _
    have counter' : (s.ticks n).dev.timer.advanced.counter.toNat = (s.dev.timer.counter.toNat + 4 * (n + 1)) % 65536 := by
      rw [advanced_counter, counter]
      omega
    rw [ticks_succ]
    refine ⟨?_, edge', ?_⟩ <;> rw [tick_timer_four (by rw [ticks_params]; exact four) edge]
    · exact counter'
    · exact ⟨tma, tac⟩

variable (enabled : s.dev.timer.tac.getLsbD 2 = true)
  (start : s.dev.timer.counter.toNat % (4 * s.dev.timer.cyclesPerCount) = 0)
include enabled start

/-- TIMA and its request in the cycle after `n`: a count at the end of each period (R441, R442). -/
theorem ticks_succ_tima (n : Nat) : let t := (s.ticks n).dev.timer
    (s.ticks (n + 1)).dev.timer.tima = (if s.dev.timer.cyclesPerCount ∣ n + 1 then
        (if t.tima = 0xFF then s.dev.timer.tma else t.tima + 1) else t.tima) ∧
      (s.ticks (n + 1)).dev.ifr.getLsbD 2 =
        ((s.ticks n).dev.ifr.getLsbD 2 || (decide (s.dev.timer.cyclesPerCount ∣ n + 1) && t.tima == 0xFF)) := by
  obtain ⟨counter, edge, tma, tac⟩ := ticks_counter four edge n
  have four' : (s.ticks n).params.clocksPerCycle = 4 := by rw [ticks_params]; exact four
  have cycles : (s.ticks n).dev.timer.cyclesPerCount = s.dev.timer.cyclesPerCount := by
    unfold Timer.cyclesPerCount; rw [tac]
  have falls : (s.ticks n).dev.timer.falls = decide (s.dev.timer.cyclesPerCount ∣ n + 1) := by
    rw [Bool.eq_iff_iff, decide_eq_true_eq, ← cycles]
    exact falls_iff (by rw [tac]; exact enabled) (by rw [cycles]; exact start) counter
  dsimp only
  rw [ticks_succ, tick_timer_bit four' edge, tick_timer_four four' edge, falls, tma]
  simp only [decide_eq_true_eq, and_self]

/-- Until it overflows, TIMA has counted each whole period that has passed, with no request (R441, R446). -/
theorem ticks_tima (n : Nat) (h : n < (256 - s.dev.timer.tima.toNat) * s.dev.timer.cyclesPerCount) :
    (s.ticks n).dev.timer.tima.toNat = s.dev.timer.tima.toNat + n / s.dev.timer.cyclesPerCount ∧
      (s.ticks n).dev.ifr.getLsbD 2 = s.dev.ifr.getLsbD 2 := by
  induction n with
  | zero => simp
  | succ n ih =>
    obtain ⟨tima, bit⟩ := ih (by omega)
    obtain ⟨tima', bit'⟩ := ticks_succ_tima four edge enabled start n
    have count := Nat.succ_div (a := n) (b := s.dev.timer.cyclesPerCount)
    have room : (n + 1) / s.dev.timer.cyclesPerCount < 256 - s.dev.timer.tima.toNat :=
      Nat.div_lt_of_lt_mul (by rw [Nat.mul_comm]; exact h)
    rw [tima', bit', count, bit]
    by_cases counts : s.dev.timer.cyclesPerCount ∣ n + 1
    · rw [if_pos counts] at count ⊢
      have notFull : (s.ticks n).dev.timer.tima ≠ 0xFF := fun full => by
        rw [full, show (0xFF : Byte).toNat = 255 from rfl] at tima
        omega
      refine ⟨?_, by rw [beq_eq_false_iff_ne.2 notFull, Bool.and_false, Bool.or_false]⟩
      rw [if_neg notFull, if_pos counts, BitVec.toNat_add, tima, show (1 : Byte).toNat = 1 from rfl]
      exact Nat.mod_eq_of_lt (by omega)
    · simp [counts, tima]

/-- TIMA stands at 0xFF through the last period, and at its end reloads with a request (R442). -/
theorem ticks_overflow :
    let n := (256 - s.dev.timer.tima.toNat) * s.dev.timer.cyclesPerCount
    (s.ticks n).dev.timer.tima = s.dev.timer.tma ∧ (s.ticks n).dev.ifr.getLsbD 2 = true := by
  have positive := cyclesPerCount_pos s.dev.timer
  have below : s.dev.timer.tima.toNat < 256 := s.dev.timer.tima.isLt
  obtain ⟨n, hn⟩ : ∃ n, (256 - s.dev.timer.tima.toNat) * s.dev.timer.cyclesPerCount = n + 1 :=
    Nat.exists_eq_succ_of_ne_zero (Nat.mul_pos (by omega) positive).ne'
  have counts : s.dev.timer.cyclesPerCount ∣ n + 1 := Dvd.intro_left _ hn
  have full : (s.ticks n).dev.timer.tima = 0xFF := by
    have whole : (n + 1) / s.dev.timer.cyclesPerCount = 256 - s.dev.timer.tima.toNat := by
      rw [← hn, Nat.mul_div_cancel _ positive]
    rw [Nat.succ_div, if_pos counts] at whole
    apply BitVec.eq_of_toNat_eq
    rw [(ticks_tima four edge enabled start n (by omega)).1]
    show _ = 255
    omega
  obtain ⟨tima', bit'⟩ := ticks_succ_tima four edge enabled start n
  dsimp only
  rw [hn, tima', bit', if_pos counts, if_pos full, full, decide_eq_true counts]
  exact ⟨rfl, Bool.or_true _⟩

end

/-- Settles O44: the counts of the whole periods, then the overflow. -/
theorem timerOverflow : Obligations.TimerOverflow := fun _ four edge enabled start =>
  ⟨ticks_tima four edge enabled start, ticks_overflow four edge enabled start⟩

end Sys2Proof.Machine

/-! ### One cycle of a running display -/

namespace Sys2Proof.Machine

/-- The requests of `e` are those of `d` with the status interrupt where `status` and V-blank where `vblank`; the timer's is not
spoken of. -/
def addsRequests (status vblank : Bool) (d e : Devices) : Prop := ∀ k, k ≠ 2 →
  e.ifr.getLsbD k = (d.ifr.getLsbD k || (decide (k = 1) && status) || (decide (k = 0) && vblank))

/-- The bits of IF one by one. -/
theorem addsRequests.bits {status vblank : Bool} {d e : Devices} (h : addsRequests status vblank d e) :
    e.ifr.getLsbD 0 = (d.ifr.getLsbD 0 || vblank) ∧ e.ifr.getLsbD 1 = (d.ifr.getLsbD 1 || status) ∧
      ∀ k, 2 < k → e.ifr.getLsbD k = d.ifr.getLsbD k := by
  refine ⟨by simpa using h 0 (by decide), by simpa using h 1 (by decide), fun k hk => ?_⟩
  rw [h k (by omega), decide_eq_false (by omega), decide_eq_false (by omega), Bool.false_and, Bool.false_and, Bool.or_false,
    Bool.or_false]

/-- What a cycle of four clocks does to a running display in range: dots pass, or one mode ends (R450-R455, R458, R462). -/
inductive Turn (d e : Devices) : Prop where
  | within (display : e.display = { d.display with dots := d.display.dots - 4 })
      (requests : addsRequests false false d e) (calls : e.renderer = d.renderer) (left : 4 < d.display.dots)
  | searchEnds (display : e.display = { d.display with mode := .transfer, dots := d.display.dots - 4 + 172 })
      (requests : addsRequests false false d e) (calls : e.renderer = .scanline d.display.ly :: d.renderer)
      (mode : d.display.mode = .oamSearch)
  | transferEnds (display : e.display = { d.display with mode := .hblank, dots := d.display.dots - 4 + 204 })
      (requests : addsRequests (d.display.statEnable.getLsbD 0) false d e) (calls : e.renderer = d.renderer)
      (mode : d.display.mode = .transfer)
  | lineBegins (display : e.display = { d.display with
        ly := nextLine d.display.ly, coincidence := nextLine d.display.ly == d.display.lyc
        mode := .oamSearch, dots := d.display.dots - 4 + 80 })
      (requests : addsRequests (d.display.statEnable.getLsbD 2 ||
        (d.display.statEnable.getLsbD 3 && nextLine d.display.ly == d.display.lyc)) false d e) (calls : e.renderer = d.renderer)
      (mode : (d.display.mode = .hblank ∧ d.display.ly.toNat < 143) ∨ (d.display.mode = .vblank ∧ d.display.ly.toNat = 153))
  | vblankBegins (display : e.display = { d.display with
        ly := nextLine d.display.ly, coincidence := nextLine d.display.ly == d.display.lyc
        mode := .vblank, dots := d.display.dots - 4 + 456 })
      (requests : addsRequests (d.display.statEnable.getLsbD 1 ||
        (d.display.statEnable.getLsbD 3 && nextLine d.display.ly == d.display.lyc)) true d e)
      (calls : e.renderer = .swap :: d.renderer) (mode : d.display.mode = .hblank) (line : d.display.ly.toNat = 143)
  | vblankLineBegins (display : e.display = { d.display with
        ly := nextLine d.display.ly, coincidence := nextLine d.display.ly == d.display.lyc
        dots := d.display.dots - 4 + 456 })
      (requests : addsRequests (d.display.statEnable.getLsbD 3 && nextLine d.display.ly == d.display.lyc) false d e)
      (calls : e.renderer = d.renderer) (mode : d.display.mode = .vblank) (line : d.display.ly.toNat < 153)

/-- The timer's part of a cycle requests nothing but interrupt 2 (R442). -/
theorem timerTick_bit (n : Nat) (d : Devices) (k : Nat) (hk : k ≠ 2) : (d.timerTick n).ifr.getLsbD k = d.ifr.getLsbD k := by
  have bit := getLsbD_request 2 k d (by decide)
  rw [request_ifr, decide_eq_false hk, Bool.or_false] at bit
  rw [Devices.timerTick, timerEdge_ifr]
  split
  · exact bit
  · rfl

/-- The requests of the end of a line, in a cycle that has made none before it (R454, R455, R458). -/
theorem addsRequests_endOfLine {d x : Devices} (h : addsRequests false false d x) : addsRequests
    ((decide (nextLine x.display.ly < 144) && x.display.statEnable.getLsbD 2) ||
      (decide (nextLine x.display.ly = 144) && x.display.statEnable.getLsbD 1) ||
      (x.display.statEnable.getLsbD 3 && nextLine x.display.ly == x.display.lyc))
    (decide (nextLine x.display.ly = 144)) d x.endOfLine := by
  intro k hk
  rw [endOfLine_bit, h k hk]
  dsimp only
  rw [Bool.and_comm (nextLine x.display.ly == x.display.lyc), Bool.or_assoc (_ && _), Bool.or_comm (_ && _)]
  simp only [Bool.and_false, Bool.or_false]

/-- The end of a line is a turn: the next line begins, as a visible one, the first of V-blank or another of V-blank (R454). -/
theorem turn_endOfLine {d x : Devices} (hx : x.display = { d.display with dots := d.display.dots - 4 })
    (requests : addsRequests false false d x) (calls : x.renderer = d.renderer)
    (mode : d.display.mode = .hblank ∨ d.display.mode = .vblank)
    (inRange : d.display.ly.toNat < 154) (vblank : d.display.mode = .vblank ↔ 144 ≤ d.display.ly.toNat) :
    Turn d x.endOfLine := by
  have next := nextLine_toNat d.display.ly inRange
  have visible : nextLine d.display.ly < 144 ↔ (nextLine d.display.ly).toNat < 144 := BitVec.lt_def
  have first : nextLine d.display.ly = 144 ↔ (nextLine d.display.ly).toNat = 144 := BitVec.toNat_inj.symm
  have display' := endOfLine_display x
  have requests' := addsRequests_endOfLine requests
  have calls' := endOfLine_renderer x
  rw [calls] at calls'
  simp only [hx] at display' requests' calls'
  have hblank : d.display.mode = .hblank ↔ d.display.ly.toNat < 144 := by
    rw [← Nat.not_le, ← vblank]
    rcases mode with m | m <;> simp [m]
  by_cases isVisible : (nextLine d.display.ly).toNat < 144
  · have ne : nextLine d.display.ly ≠ 144 := fun e => absurd (first.1 e) (by omega)
    rw [if_pos (visible.2 isVisible)] at display'
    rw [if_neg ne] at calls'
    rw [decide_eq_true (visible.2 isVisible), decide_eq_false ne, Bool.true_and, Bool.false_and, Bool.or_false] at requests'
    refine .lineBegins display' requests' calls' ?_
    rw [hblank, vblank]
    split at next <;> omega
  · rw [if_neg (mt visible.1 isVisible)] at display'
    rw [decide_eq_false (mt visible.1 isVisible), Bool.false_and, Bool.false_or] at requests'
    by_cases isFirst : (nextLine d.display.ly).toNat = 144
    · rw [if_pos (first.2 isFirst)] at display' calls'
      rw [decide_eq_true (first.2 isFirst), Bool.true_and] at requests'
      refine .vblankBegins display' requests' calls' (hblank.2 ?_) ?_ <;> split at next <;> omega
    · rw [if_neg (mt first.1 isFirst)] at display' calls'
      rw [decide_eq_false (mt first.1 isFirst), Bool.false_and, Bool.false_or] at requests'
      refine .vblankLineBegins display' requests' calls' (vblank.2 ?_) ?_ <;> split at next <;> omega

/-- A cycle of four clocks is one turn of a running display in range. -/
theorem turn_tick (d : Devices) (on : d.display.on = true) (ok : d.display.ok) : Turn d (d.tick 4) := by
  have kept : (d.timerTick 4).display = d.display := timerTick_display 4 d
  generalize hx : ({ d.timerTick 4 with display := { d.display with dots := d.display.dots - 4 } } : Devices) = x
  have ticks : d.tick 4 = if 4 < d.display.dots then x else x.modeEnd := by
    rw [Devices.tick, displayTick_four _ (by rw [kept]; exact on) (by rw [kept]; exact ok), kept, ← hx]
  have display : x.display = { d.display with dots := d.display.dots - 4 } := by rw [← hx]
  have requests : addsRequests false false d x := by
    intro k hk
    rw [← hx]
    simp [timerTick_bit 4 d k hk]
  have calls : x.renderer = d.renderer := by
    rw [← hx]
    exact timerTick_renderer 4 d
  obtain ⟨-, inRange, rest⟩ := ok
  rw [if_pos on] at rest
  rw [ticks]
  split
  · exact .within display requests calls ‹_›
  · have display' := modeEnd_display x
    have calls' := modeEnd_renderer x
    cases mode : d.display.mode with
    | oamSearch =>
      simp only [display, mode, calls] at display' calls'
      refine .searchEnds display' (fun k hk => ?_) calls' mode
      rw [modeEnd_bit, display, mode]
      exact requests k hk
    | transfer =>
      simp only [display, mode, calls] at display' calls'
      refine .transferEnds display' (fun k hk => ?_) calls' mode
      rw [modeEnd_bit, display, mode]
      dsimp only
      rw [requests k hk]
      simp only [Bool.and_false, Bool.or_false]
    | hblank =>
      have ends : x.modeEnd = x.endOfLine := by rw [Devices.modeEnd, display, mode]
      rw [ends]
      exact turn_endOfLine display requests calls (.inl mode) inRange rest.1
    | vblank =>
      have ends : x.modeEnd = x.endOfLine := by rw [Devices.modeEnd, display, mode]
      rw [ends]
      exact turn_endOfLine display requests calls (.inr mode) inRange rest.1

/-- The line changes at the end of a line (R454). -/
theorem ne_nextLine {ly : Byte} (h : ly.toNat < 154) : (ly != nextLine ly) = true := by
  have next := nextLine_toNat ly h
  rw [bne_iff_ne, ← BitVec.toNat_inj.ne]
  split at next <;> omega

theorem entered_eq (m : Mode) (d e : Display) : d.entered m e = decide (d.mode ≠ m ∧ e.mode = m) := by
  rw [Display.entered, Bool.eq_iff_iff]
  simp

/-- A turn's requests and renderer calls, by the mode it enters and the line it changes to (R452-R455, R458, R462). -/
theorem Turn.events {d e : Devices} (h : Turn d e) (inRange : d.display.ly.toNat < 154) :
    addsRequests ((d.display.statEnable.getLsbD 0 && d.display.entered .hblank e.display) ||
      (d.display.statEnable.getLsbD 2 && d.display.entered .oamSearch e.display) ||
      (d.display.statEnable.getLsbD 1 && d.display.entered .vblank e.display) ||
      (d.display.statEnable.getLsbD 3 && d.display.ly != e.display.ly && e.display.ly == e.display.lyc))
      (d.display.entered .vblank e.display) d e ∧
    e.renderer = (if d.display.entered .vblank e.display then [.swap]
      else if d.display.entered .transfer e.display then [.scanline d.display.ly] else []) ++ d.renderer := by
  have changes := ne_nextLine inRange
  simp only [entered_eq]
  cases h with
  | within display requests calls =>
    simpa [display, calls] using requests
  | searchEnds display requests calls mode | transferEnds display requests calls mode =>
    simpa [display, mode, calls] using requests
  | lineBegins display requests calls mode =>
    rcases mode with ⟨mode, -⟩ | ⟨mode, -⟩ <;> simpa [display, mode, calls, changes] using requests
  | vblankBegins display requests calls mode | vblankLineBegins display requests calls mode =>
    simpa [display, mode, calls, changes] using requests

/-- Settles O48: off, the cycle is the timer's alone; on, it is one turn. -/
theorem displayRequests : Obligations.DisplayRequests := by
  intro s d e sameBit
  refine ⟨fun off => ?_, fun four on ok => ?_⟩
  · have ticks : s.tick.dev = s.dev.timerTick s.params.clocksPerCycle := by
      rw [tick_dev, Devices.tick, displayTick_off _ _ (by rw [timerTick_display]; exact off)]
    have kept : e = d := (congrArg Devices.display ticks).trans (timerTick_display _ _)
    refine ⟨kept, (congrArg Devices.renderer ticks).trans (timerTick_renderer _ _), fun k hk => ?_⟩
    exact (congrArg (fun x : Devices => x.ifr.getLsbD k) ticks).trans (timerTick_bit _ _ k hk)
  · have ticks : s.tick.dev = s.dev.tick 4 := by rw [tick_dev, four]
    obtain ⟨requests, calls⟩ := (turn_tick s.dev on ok).events ok.2.1
    rw [← ticks] at requests calls
    obtain ⟨bit0, bit1, others⟩ := requests.bits
    refine ⟨bit0, ?_, others, calls⟩
    simp only [Bool.or_assoc] at bit1 ⊢
    exact bit1

/-! ### The place of a running display in its frame -/

/-- The dots from the start of a line to the end of a mode of it (R451). -/
def Mode.lastDot : Mode → Int
  | .oamSearch => 80
  | .transfer => 252
  | .hblank => 456
  | .vblank => 456

/-- The dots that have passed since the start of line 0 (R450, R451). -/
def Display.frameDot (d : Display) : Int := 456 * d.ly.toNat + d.mode.lastDot - d.dots

/-- The mode at a place in the frame (R451, R454). -/
def modeAt (p : Int) : Mode :=
  if 65664 ≤ p then .vblank else if p % 456 < 80 then .oamSearch else if p % 456 < 252 then .transfer else .hblank

/-- The line and the mode by the place in the frame (R451, R454). -/
theorem frameDot_spec {d : Display} (on : d.on = true) (ok : d.ok) :
    0 ≤ d.frameDot ∧ d.frameDot < 70224 ∧ (d.ly.toNat : Int) = d.frameDot / 456 ∧ d.mode = modeAt d.frameDot := by
  obtain ⟨-, inRange, rest⟩ := ok
  rw [if_pos on] at rest
  obtain ⟨vblank, positive, le⟩ := rest
  have place : d.frameDot = 456 * d.ly.toNat + d.mode.lastDot - d.dots := rfl
  generalize d.frameDot = p at place ⊢
  unfold modeAt
  cases mode : d.mode <;>
    simp only [mode, Mode.lastDot, Mode.length, reduceCtorEq, true_iff, false_iff] at vblank le place <;>
    refine ⟨by omega, by omega, by omega, ?_⟩
  case hblank => rw [if_neg (by omega), if_neg (by omega), if_neg (by omega)]
  case vblank => rw [if_pos (by omega)]
  case oamSearch => rw [if_neg (by omega), if_pos (by omega)]
  case transfer => rw [if_neg (by omega), if_neg (by omega), if_pos (by omega)]

theorem tick_on (n : Nat) (d : Devices) : (d.tick n).display.on = d.display.on := by
  rw [Display.on, tick_lcdc, Display.on]

/-- A cycle takes four dots of the frame, which begins again after 70224 (R450, R451, R454). -/
theorem tick_frameDot {d : Devices} (on : d.display.on = true) (ok : d.display.ok) :
    (d.tick 4).display.frameDot = (d.display.frameDot + 4) % 70224 := by
  have next := nextLine_toNat d.display.ly ok.2.1
  obtain ⟨nonneg, bound, -, -⟩ := frameDot_spec ((tick_on 4 d).trans on) (tick_display_ok 4 d ok)
  have turn := turn_tick d on ok
  unfold Display.frameDot at *
  cases turn with
  | within display =>
    rw [display] at nonneg bound ⊢
    dsimp only at nonneg bound ⊢
    omega
  | searchEnds display _ _ mode | transferEnds display _ _ mode =>
    rw [display] at nonneg bound ⊢
    simp only [mode, Mode.lastDot] at nonneg bound ⊢
    omega
  | vblankBegins display _ _ mode | vblankLineBegins display _ _ mode =>
    rw [display] at nonneg bound ⊢
    simp only [mode, Mode.lastDot] at nonneg bound ⊢
    split at next <;> omega
  | lineBegins display _ _ mode =>
    rw [display] at nonneg bound ⊢
    rcases mode with ⟨mode, _⟩ | ⟨mode, _⟩ <;> simp only [mode, Mode.lastDot] at nonneg bound ⊢ <;>
      split at next <;> omega

/-- A turn changes no display register but LY and STAT[2] (R450-R455). -/
def sameRegisters (d e : Display) : Prop :=
  e = { d with ly := e.ly, coincidence := e.coincidence, mode := e.mode, dots := e.dots }

theorem sameRegisters.trans {d e f : Display} (h : sameRegisters d e) (h' : sameRegisters e f) : sameRegisters d f := by
  unfold sameRegisters at *
  rw [h', h]

theorem Turn.sameRegisters {d e : Devices} (h : Turn d e) : sameRegisters d.display e.display := by
  cases h with
  | within display | searchEnds display | transferEnds display | lineBegins display | vblankBegins display
    | vblankLineBegins display => rw [display]; rfl

/-- Two running displays in range at one place of the frame, with the same registers, are the same (R455). -/
theorem eq_of_frameDot {d e : Display} (same : sameRegisters d e) (on : d.on = true) (okd : d.ok) (oke : e.ok)
    (place : e.frameDot = d.frameDot) : e = d := by
  have lcdc : e.lcdc = d.lcdc := by rw [same]
  have lyc : e.lyc = d.lyc := by rw [same]
  obtain ⟨-, -, line, mode⟩ := frameDot_spec on okd
  obtain ⟨-, -, line', mode'⟩ := frameDot_spec (by rw [Display.on, lcdc]; exact on) oke
  have hly : e.ly = d.ly := BitVec.toNat_inj.1 (by omega)
  have hmode : e.mode = d.mode := by rw [mode', mode, place]
  have hdots : e.dots = d.dots := by
    unfold Display.frameDot at place
    rw [hly, hmode] at place
    omega
  have hc : e.coincidence = d.coincidence := by rw [oke.1, okd.1, hly, lyc]
  rw [same, hly, hmode, hdots, hc]

/-! ### A running display over many cycles -/

section

variable {s : State} (four : s.params.clocksPerCycle = 4) (on : s.dev.display.on = true) (ok : s.dev.display.ok)
include four on ok

/-- The display after `n` cycles: still running and in range, its registers as they were, `4 * n` dots further in its frame. -/
theorem ticks_display (n : Nat) : (s.ticks n).dev.display.on = true ∧ (s.ticks n).dev.display.ok ∧
    sameRegisters s.dev.display (s.ticks n).dev.display ∧
    (s.ticks n).dev.display.frameDot = (s.dev.display.frameDot + 4 * n) % 70224 := by
  induction n with
  | zero =>
    obtain ⟨nonneg, bound, -, -⟩ := frameDot_spec on ok
    exact ⟨on, ok, rfl, by rw [ticks_zero]; omega⟩
  | succ n ih =>
    obtain ⟨on, ok, same, place⟩ := ih
    rw [ticks_succ, tick_dev, ticks_params, four]
    refine ⟨(tick_on 4 _).trans on, tick_display_ok 4 _ ok, same.trans (turn_tick _ on ok).sameRegisters, ?_⟩
    rw [tick_frameDot on ok, place]
    omega

/-- Line and mode after `n` cycles (R451, R454). -/
theorem ticks_line_mode (n : Nat) :
    ((s.ticks n).dev.display.ly.toNat : Int) = (s.dev.display.frameDot + 4 * n) % 70224 / 456 ∧
      (s.ticks n).dev.display.mode = modeAt ((s.dev.display.frameDot + 4 * n) % 70224) := by
  obtain ⟨on, ok, -, place⟩ := ticks_display four on ok n
  rw [← place]
  exact (frameDot_spec on ok).2.2

/-- After the cycles of a frame the display is back at its place (R533). -/
theorem ticks_frame_display : (s.ticks 17556).dev.display = s.dev.display := by
  obtain ⟨nonneg, bound, -, -⟩ := frameDot_spec on ok
  obtain ⟨-, ok', same, place⟩ := ticks_display four on ok 17556
  exact eq_of_frameDot same on ok ok' (by rw [place]; omega)

/-- A cycle enters V-blank where it passes the place of line 144 (R454). -/
theorem entered_vblank_iff (n : Nat) : (s.ticks n).dev.display.entered .vblank (s.ticks (n + 1)).dev.display = true ↔
    (s.dev.display.frameDot + 4 * n) % 70224 < 65664 ∧ 65664 ≤ (s.dev.display.frameDot + 4 * (n + 1 : Nat)) % 70224 := by
  have vblank (p : Int) : modeAt p = .vblank ↔ 65664 ≤ p := by unfold modeAt; split_ifs <;> simp [*]
  rw [entered_eq, decide_eq_true_eq, (ticks_line_mode four on ok n).2, (ticks_line_mode four on ok (n + 1)).2, Ne, vblank, vblank,
    Int.not_le]

/-- The swaps called in `n` cycles are the passes of line 144, and one of them requests V-blank (R454, R462). -/
theorem ticks_swaps (n : Nat) :
    ((s.ticks n).dev.renderer.count .swap : Int) = s.dev.renderer.count .swap +
      ((s.dev.display.frameDot + 4 * n + 4560) / 70224 - (s.dev.display.frameDot + 4560) / 70224) ∧
    ((s.ticks n).dev.renderer.count .swap ≠ s.dev.renderer.count .swap → (s.ticks n).dev.ifr.getLsbD 0 = true) := by
  induction n with
  | zero => simp
  | succ n ih =>
    obtain ⟨count, bit⟩ := ih
    obtain ⟨on', ok', -, -⟩ := ticks_display four on ok n
    obtain ⟨requests, -, -, calls⟩ := (displayRequests (s.ticks n)).2 (by rw [ticks_params]; exact four) on' ok'
    have entered := entered_vblank_iff four on ok n
    rw [ticks_succ] at entered ⊢
    rw [calls, requests, List.count_append]
    by_cases enters : (s.ticks n).dev.display.entered .vblank (s.ticks n).tick.dev.display = true
    · have passed := entered.1 enters
      rw [if_pos enters, enters]
      exact ⟨by simp only [List.count_singleton_self]; omega, fun _ => Bool.or_true _⟩
    · have notPassed := mt entered.2 enters
      have noSwap : List.count RenderCall.swap (if (s.ticks n).dev.display.entered .transfer (s.ticks n).tick.dev.display then
          [.scanline (s.ticks n).dev.display.ly] else []) = 0 := by split <;> rfl
      rw [if_neg enters, noSwap, Nat.zero_add]
      exact ⟨by omega, fun ne => by rw [bit ne, Bool.true_or]⟩

end

/-- Settles O46: from the start of a line's mode 2 the place in the frame gives line and mode. -/
theorem visibleLine : Obligations.VisibleLine := by
  intro s four on ok mode dots
  have line : s.dev.display.ly.toNat < 144 := by
    have rest := ok.2.2
    rw [if_pos on, mode] at rest
    simpa using rest.1
  have start : s.dev.display.frameDot = 456 * s.dev.display.ly.toNat := by
    rw [Display.frameDot, mode, dots, Mode.lastDot]
    omega
  have line_mode (n : Nat) := ticks_line_mode four on ok n
  rw [start] at line_mode
  refine ⟨fun n hn => ?_, ?_, ?_⟩
  · obtain ⟨ly, mode⟩ := line_mode n
    have search : (456 * (s.dev.display.ly.toNat : Int) + 4 * n) % 70224 % 456 < 80 ↔ n < 20 := by omega
    have transfer : (456 * (s.dev.display.ly.toNat : Int) + 4 * n) % 70224 % 456 < 252 ↔ n < 63 := by omega
    refine ⟨BitVec.toNat_inj.1 (by omega), ?_⟩
    rw [mode, modeAt, if_neg (by omega)]
    simp only [search, transfer]
  · have ly := (line_mode 114).1
    have next : (s.dev.display.ly + 1).toNat = s.dev.display.ly.toNat + 1 := by bv_omega
    exact BitVec.toNat_inj.1 (by omega)
  · have last : s.dev.display.ly = 143 ↔ s.dev.display.ly.toNat = 143 := BitVec.toNat_inj.symm
    rw [(line_mode 114).2, modeAt]
    by_cases h : s.dev.display.ly.toNat = 143
    · rw [if_pos (by omega), if_pos (last.2 h)]
    · rw [if_neg (by omega), if_pos (by omega), if_neg (mt last.1 h)]

/-- Settles O47: the frame is as long as 17556 cycles, and line 144 stands in it once. -/
theorem framePeriod : Obligations.FramePeriod := by
  intro s four on ok
  obtain ⟨swaps, vblank⟩ := ticks_swaps four on ok 17556
  have once : (s.ticks 17556).dev.renderer.count .swap = s.dev.renderer.count .swap + 1 := by omega
  exact ⟨ticks_frame_display four on ok, vblank (by omega), once⟩

end Sys2Proof.Machine

/-! ### The display registers -/

namespace Sys2Proof.Machine

/-- An LCDC write that leaves the display off or on stores the byte (R456). -/
theorem writeLcdc_same {v : Byte} {d : Devices} (h : d.display.lcdc.getLsbD 7 = v.getLsbD 7) :
    d.writeLcdc v = { d with display := { d.display with lcdc := v } } := by
  unfold Devices.writeLcdc Display.on
  dsimp only
  rw [h]
  cases v.getLsbD 7 <;> rfl

/-- An LCDC write that turns the display off restarts line 0 in mode 0 (R456). -/
theorem writeLcdc_off {v : Byte} {d : Devices} (on : d.display.lcdc.getLsbD 7 = true) (off : v.getLsbD 7 = false) :
    d.writeLcdc v = { d with display := { d.display with
      lcdc := v, ly := 0, mode := .hblank, coincidence := decide (d.display.lyc = 0) } } := by
  have lyc : ((0 : Byte) == d.display.lyc) = decide (d.display.lyc = 0) := decide_eq_decide.2 eq_comm
  unfold Devices.writeLcdc Display.on
  dsimp only
  rw [on, off, lyc]
  rfl

/-- An LCDC write that turns the display on restarts line 0 in mode 2, with a coincidence check (R456). -/
theorem writeLcdc_on {v : Byte} {d : Devices} (off : d.display.lcdc.getLsbD 7 = false) (on : v.getLsbD 7 = true) :
    d.writeLcdc v =
      let e := { d.display with lcdc := v, ly := 0, mode := .oamSearch, dots := 80, coincidence := decide (d.display.lyc = 0) }
      if decide (d.display.lyc = 0) && d.display.statEnable.getLsbD 3 then
        { d with display := e, ifr := d.ifr ||| 0b00010 } else { d with display := e } := by
  have lyc : ((0 : Byte) == d.display.lyc) = decide (d.display.lyc = 0) := decide_eq_decide.2 eq_comm
  unfold Devices.writeLcdc Display.on Devices.coincide
  dsimp only
  rw [on, off, lyc]
  rfl

/-- STAT reads with bit 7 set, its enables in bits 6-3, the coincidence flag in bit 2 and two bits of mode (R50, R71). -/
theorem stat_read_eq : ∀ (x : BitVec 4) (c : Bool) (m : BitVec 2), (1#1 ++ x ++ BitVec.ofBool c ++ m : Byte) =
    0x80 ||| x.setWidth 8 <<< 3 ||| (if c then 0x04 else 0) ||| m.setWidth 8 := by decide

/-- The mode field of STAT as a byte (R45, R71). -/
theorem modeBits_setWidth (d : Display) :
    d.modeBits.setWidth 8 = (if d.lcdc.getLsbD 7 then d.mode.number.setWidth 8 else 0 : Byte) :=
  apply_ite (BitVec.setWidth 8) _ _ _

/-- Settles O49: each register's clause is its row of the register map (R50), at the address the map gives it. -/
theorem displayRegisterWrites : Obligations.DisplayRegisterWrites := by
  intro v s d put match0 modeNumber
  refine ⟨?lcdc, ?lyc, ?stat, ?scy, ?scx, ?bgp, ?obp0, ?obp1, ?wy, ?wx, ?readLcdc, ?readStat, ?readScy, ?readScx, ?readLy,
    ?readLyc, ?readBgp, ?readObp0, ?readObp1, ?readWy, ?readWx⟩
  case lcdc =>
    rw [routeWrite_io (r := .lcdc) v s (by decide) (by decide), writeIoReg]
    by_cases same : s.dev.display.lcdc.getLsbD 7 = v.getLsbD 7
    · rw [if_pos same, writeLcdc_same same]
    · rw [if_neg same]
      cases new : v.getLsbD 7 with
      | false =>
        rw [new, Bool.not_eq_false] at same
        rw [if_pos rfl, writeLcdc_off same new]
      | true =>
        rw [new, Bool.not_eq_true] at same
        rw [if_neg (by decide), writeLcdc_on same new]
        exact apply_ite (fun dev : Devices => { s with dev := dev }) ((match0 && d.statEnable.getLsbD 3) = true) _ _
  case lyc =>
    rw [routeWrite_io (r := .lyc) v s (by decide) (by decide)]
    rfl
  case stat => exact routeWrite_io (r := .stat) v s (by decide) (by decide)
  case scy => exact routeWrite_io (r := .scy) v s (by decide) (by decide)
  case scx => exact routeWrite_io (r := .scx) v s (by decide) (by decide)
  case bgp => exact routeWrite_io (r := .bgp) v s (by decide) (by decide)
  case obp0 => exact routeWrite_io (r := .obp0) v s (by decide) (by decide)
  case obp1 => exact routeWrite_io (r := .obp1) v s (by decide) (by decide)
  case wy => exact routeWrite_io (r := .wy) v s (by decide) (by decide)
  case wx => exact routeWrite_io (r := .wx) v s (by decide) (by decide)
  case readLcdc => exact routeRead_io (r := .lcdc) s (by decide) (by decide)
  case readStat =>
    have number : modeNumber = d.mode.number.setWidth 8 := by
      simp only [modeNumber]
      cases d.mode <;> rfl
    rw [routeRead_io (r := .stat) s (by decide) (by decide), readIoReg, stat_read_eq, modeBits_setWidth, number]
  case readScy => exact routeRead_io (r := .scy) s (by decide) (by decide)
  case readScx => exact routeRead_io (r := .scx) s (by decide) (by decide)
  case readLy => exact routeRead_io (r := .ly) s (by decide) (by decide)
  case readLyc => exact routeRead_io (r := .lyc) s (by decide) (by decide)
  case readBgp => exact routeRead_io (r := .bgp) s (by decide) (by decide)
  case readObp0 => exact routeRead_io (r := .obp0) s (by decide) (by decide)
  case readObp1 => exact routeRead_io (r := .obp1) s (by decide) (by decide)
  case readWy => exact routeRead_io (r := .wy) s (by decide) (by decide)
  case readWx => exact routeRead_io (r := .wx) s (by decide) (by decide)

end Sys2Proof.Machine

/-! ### The cycles of every instruction -/

namespace Sys2Proof.Machine

@[simp] theorem memWrite_stepCycles (a : Word) (v : Byte) (s : State) : (memWrite a v s).stepCycles = s.stepCycles + 1 := by
  simp [memWrite]

@[simp] theorem loadReg_stepCycles (r : R8) (a : Word) (s : State) : (loadReg r a s).stepCycles = s.stepCycles + 1 := by
  rw [loadReg_eq]
  rfl

@[simp] theorem push16_stepCycles (v : Word) (s : State) : (push16 v s).stepCycles = s.stepCycles + 2 := by simp [push16]

@[simp] theorem pop16_stepCycles (s : State) : (pop16 s).2.stepCycles = s.stepCycles + 2 := by simp [pop16_eq]

@[simp] theorem call_stepCycles (a : Word) (s : State) : (call a s).stepCycles = s.stepCycles + 3 := by simp [call]

@[simp] theorem ret_stepCycles (s : State) : (ret s).stepCycles = s.stepCycles + 3 := by simp [ret_eq]

@[simp] theorem applyAlu_stepCycles (op : AluOp) (v : Byte) (s : State) : (applyAlu op v s).stepCycles = s.stepCycles := by
  cases op <;> rfl

@[simp] theorem aluOpnd_stepCycles (op : AluOp) (x : Opnd8) (s : State) :
    (aluOpnd op x s).stepCycles = s.stepCycles + opndCycles x := by simp [aluOpnd_eq]

/-- A read-modify-write takes the operand's cycles twice: a read and a write (R350). -/
@[simp] theorem afterOpnd_stepCycles (x : Opnd8) (w : Byte) (s : State) :
    (afterOpnd x w s).stepCycles = s.stepCycles + 2 * opndCycles x := by
  cases x <;> simp [afterOpnd, opndCycles]

/-- The cycles of `i` are the documented ones, its condition read where it starts (R531). -/
def takesDocumented (i : Instr) : Prop := ∀ s : State, ∃ t, exec i s = .next t ∧
  t.stepCycles + (encode i).length = s.stepCycles + documentedCycles (encode i) s

/-- The documented count of an opcode does not depend on a condition, and is `n` (R531). -/
abbrev fixedCycles (op : Byte) (n : Nat) : Prop :=
  op ≠ 0x10 ∧ op ≠ 0xCB ∧ takenCycles.getD op.toNat 0 = n ∧ notTakenCycles op = n

theorem documentedCycles_fixed {op : Byte} {n : Nat} (h : fixedCycles op n) (rest : List Byte) (s : State) :
    documentedCycles (op :: rest) s = n := by
  obtain ⟨notStop, notCb, taken, notTaken⟩ := h
  simp only [documentedCycles, notStop, notCb, taken, notTaken, if_false, ite_self]

/-- A row with one documented count, which is the cycles of its fetch and of its meaning. -/
theorem takesDocumented_fixed {i : Instr} {op : Byte} {rest : List Byte} {n : Nat} {f : State → State}
    (enc : encode i = op :: rest) (he : ∀ s, exec i s = .next (f s)) (cost : ∀ s, (f s).stepCycles = s.stepCycles + n)
    (doc : fixedCycles op (n + (rest.length + 1))) : takesDocumented i := by
  intro s
  refine ⟨f s, he s, ?_⟩
  rw [enc, documentedCycles_fixed doc, cost, List.length_cons, Nat.add_assoc]

section

variable {op : Byte} {n : Nat} {f : State → State}

theorem takesDocumented_p1 {i : Instr} (row : primaryRow op = .p1 i) (he : ∀ s, exec i s = .next (f s))
    (cost : ∀ s, (f s).stepCycles = s.stepCycles + n) (doc : fixedCycles op (n + 1)) : takesDocumented i :=
  takesDocumented_fixed (encode_of_p1 row) he cost doc

theorem takesDocumented_p2 {mk : Byte → Instr} {d : Byte} (row : primaryRow op = .p2 mk)
    (he : ∀ s, exec (mk d) s = .next (f s)) (cost : ∀ s, (f s).stepCycles = s.stepCycles + n)
    (doc : fixedCycles op (n + 2)) : takesDocumented (mk d) :=
  takesDocumented_fixed (encode_of_p2 row d) he cost doc

theorem takesDocumented_p3 {mk : Word → Instr} {w : Word} (row : primaryRow op = .p3 mk)
    (he : ∀ s, exec (mk w) s = .next (f s)) (cost : ∀ s, (f s).stepCycles = s.stepCycles + n)
    (doc : fixedCycles op (n + 3)) : takesDocumented (mk w) :=
  takesDocumented_fixed (encode_of_p3 row w) he cost doc

end

/-- A row of the secondary map, by its second byte. -/
theorem takesDocumented_cb {i : Instr} {b : Byte} {n : Nat} {f : State → State}
    (row : secondaryRow b = i) (he : ∀ s, exec i s = .next (f s)) (cost : ∀ s, (f s).stepCycles = s.stepCycles + n)
    (doc : secondaryCycles b = n + 2) : takesDocumented i := by
  intro s
  refine ⟨f s, he s, ?_⟩
  have counted : documentedCycles [0xCB, b] s = secondaryCycles b := rfl
  rw [encode_of_cb row, counted, cost, doc]
  show _ + 2 = _
  omega

/-- The documented counts of an opcode are `n` where its condition `cc` holds and `m` where not (R157, R531). -/
abbrev conditionalCycles (op : Byte) (cc : Cond) (n m : Nat) : Prop :=
  op ≠ 0x10 ∧ op ≠ 0xCB ∧ condField op = cc ∧ takenCycles.getD op.toNat 0 = n ∧ notTakenCycles op = m

/-- A row with two documented counts, each the cycles of its fetch and of its meaning. -/
theorem takesDocumented_if {i : Instr} {op : Byte} {rest : List Byte} {n m : Nat} {cc : Cond} {f : State → State}
    (enc : encode i = op :: rest) (he : ∀ s, exec i s = .next (f s))
    (cost : ∀ s, (f s).stepCycles = s.stepCycles + if s.cond cc then n else m)
    (doc : conditionalCycles op cc (n + (rest.length + 1)) (m + (rest.length + 1))) : takesDocumented i := by
  intro s
  obtain ⟨notStop, notCb, field, taken, notTaken⟩ := doc
  refine ⟨f s, he s, ?_⟩
  simp only [enc, documentedCycles, notStop, notCb, field, taken, notTaken, if_false, cost, List.length_cons]
  split <;> rw [Nat.add_assoc]

/-! ### The groups of rows -/

theorem takesDocumented_rot (op : RotOp) (x : Opnd8) : takesDocumented (.rowRot op x) :=
  takesDocumented_cb (n := 2 * opndCycles x) (secondaryRow_rot op x) (exec_rowRot op x)
    (fun s => by rw [rotOpnd_eq, setAluFlags_stepCycles, afterOpnd_stepCycles])
    (by rcases x with r | _ <;> [(cases op <;> cases r <;> rfl); (cases op <;> rfl)])

theorem takesDocumented_bit (b : Fin 8) (x : Opnd8) : takesDocumented (.rowBit b x) :=
  takesDocumented_cb (n := opndCycles x) (secondaryRow_bit b x) (exec_rowBit b x)
    (fun s => by simp only [bitTest_eq, ticks_stepCycles])
    (by match b with
      | 0 | 1 | 2 | 3 | 4 | 5 | 6 | 7 => rcases x with r | _ <;> [(cases r <;> rfl); rfl])

theorem takesDocumented_res (b : Fin 8) (x : Opnd8) : takesDocumented (.rowRes b x) :=
  takesDocumented_cb (n := 2 * opndCycles x) (secondaryRow_res b x) (exec_rowRes b x)
    (fun s => by rw [bitReset_eq, afterOpnd_stepCycles])
    (by match b with
      | 0 | 1 | 2 | 3 | 4 | 5 | 6 | 7 => rcases x with r | _ <;> [(cases r <;> rfl); rfl])

theorem takesDocumented_set (b : Fin 8) (x : Opnd8) : takesDocumented (.rowSet b x) :=
  takesDocumented_cb (n := 2 * opndCycles x) (secondaryRow_set b x) (exec_rowSet b x)
    (fun s => by rw [bitSet_eq, afterOpnd_stepCycles])
    (by match b with
      | 0 | 1 | 2 | 3 | 4 | 5 | 6 | 7 => rcases x with r | _ <;> [(cases r <;> rfl); rfl])

theorem takesDocumented_alu (op : AluOp) (x : Opnd8) : takesDocumented (.rowAlu op x) :=
  takesDocumented_p1 (n := opndCycles x) (primaryRow_alu op x) (exec_rowAlu op x) (aluOpnd_stepCycles op x)
    (by rcases x with r | _ <;> [(cases op <;> cases r <;> decide); (cases op <;> decide)])

theorem takesDocumented_inc (x : Opnd8) : takesDocumented (.rowInc x) :=
  takesDocumented_p1 (n := 2 * opndCycles x) (primaryRow_inc x) (exec_rowInc x)
    (fun s => by rw [incOpnd_eq, setAluFlags_stepCycles, afterOpnd_stepCycles])
    (by rcases x with r | _ <;> [(cases r <;> decide); decide])

theorem takesDocumented_dec (x : Opnd8) : takesDocumented (.rowDec x) :=
  takesDocumented_p1 (n := 2 * opndCycles x) (primaryRow_dec x) (exec_rowDec x)
    (fun s => by rw [decOpnd_eq, setAluFlags_stepCycles, afterOpnd_stepCycles])
    (by rcases x with r | _ <;> [(cases r <;> decide); decide])

theorem takesDocumented_jrIf (cc : Cond) (e : Byte) : takesDocumented (.rowJrIf cc e) := by
  have doc : conditionalCycles (0x20 + 8 * cc.code) cc 3 2 := by cases cc <;> decide
  refine takesDocumented_if (n := 1) (m := 0) (encode_of_p2 (primaryRow_jrIf cc) e) (exec_rowJrIf cc e) (fun s => ?_) doc
  unfold jumpRelIf
  split <;> rfl

theorem takesDocumented_jpIf (cc : Cond) (a : Word) : takesDocumented (.rowJpIf cc a) := by
  have doc : conditionalCycles (0xC2 + 8 * cc.code) cc 4 3 := by cases cc <;> decide
  refine takesDocumented_if (n := 1) (m := 0) (encode_of_p3 (primaryRow_jpIf cc) a) (exec_rowJpIf cc a) (fun s => ?_) doc
  unfold jumpIf
  split <;> rfl

theorem takesDocumented_callIf (cc : Cond) (a : Word) : takesDocumented (.rowCallIf cc a) := by
  have doc : conditionalCycles (0xC4 + 8 * cc.code) cc 6 3 := by cases cc <;> decide
  refine takesDocumented_if (n := 3) (m := 0) (encode_of_p3 (primaryRow_callIf cc) a) (exec_rowCallIf cc a) (fun s => ?_) doc
  unfold callIf
  split <;> [exact call_stepCycles a s; rfl]

theorem takesDocumented_retIf (cc : Cond) : takesDocumented (.rowRetIf cc) := by
  have doc : conditionalCycles (0xC0 + 8 * cc.code) cc 5 2 := by cases cc <;> decide
  refine takesDocumented_if (n := 4) (m := 1) (encode_of_p1 (primaryRow_retIf cc)) (exec_rowRetIf cc) (fun s => ?_) doc
  rw [retIf_eq]
  split <;> [rw [ret_stepCycles, tick_stepCycles]; rfl]

/-- STOP charges its second byte only in the mode that fetches it (R332, R531). -/
theorem takesDocumented_stop : takesDocumented .stop := by
  intro s
  have counted : documentedCycles (encode .stop) s = if s.params.stopMode = .fault then 1 else 2 := rfl
  rw [counted]
  cases mode : s.params.stopMode with
  | fault => exact ⟨_, exec_stop_fault mode, rfl⟩
  | nop2 => exact ⟨_, exec_stop_nop2 mode, rfl⟩

theorem takesDocumented_undefined : ∀ x ∈ Instr.undefinedRows, takesDocumented x.2 := by
  intro x hx
  refine takesDocumented_p1 (n := 0) (primaryRow_undefined x hx) (fun s => exec_undefined s x hx)
    (fun _ => rfl) ?_
  revert x
  simp only [Instr.undefinedRows, List.forall_mem_cons]
  decide

/-- Every instruction takes the documented cycles; the escape byte by itself is no instruction (R530, R531). -/
theorem takesDocumented_of_ne_prefixCb (i : Instr) (h : i ≠ .prefixCb) : takesDocumented i := by
  induction i using Instr.byRows with
  | hLd r r' =>
    exact takesDocumented_p1 (n := 0) (primaryRow_ld r r') (exec_rowLd r r') (by simp)
      (by cases r <;> cases r' <;> decide)
  | hLdImm r d =>
    exact takesDocumented_p2 (n := 0) (primaryRow_ldImm r) (exec_rowLdImm r d) (by simp)
      (by cases r <;> decide)
  | hLdFromHl r =>
    exact takesDocumented_p1 (n := 1) (primaryRow_ldFromHl r) (exec_rowLdFromHl r) (by simp)
      (by cases r <;> decide)
  | hLdToHl r =>
    exact takesDocumented_p1 (n := 1) (primaryRow_ldToHl r) (exec_rowLdToHl r) (by simp [storeByte])
      (by cases r <;> decide)
  | hLdPair p w =>
    exact takesDocumented_p3 (n := 0) (primaryRow_ldPair p) (exec_rowLdPair p w) (by simp)
      (by cases p <;> decide)
  | hPush p =>
    exact takesDocumented_p1 (n := 3) (primaryRow_push p) (exec_rowPush p) (by simp [push])
      (by cases p <;> decide)
  | hPop p =>
    exact takesDocumented_p1 (n := 2) (primaryRow_pop p) (exec_rowPop p) (by simp [pop])
      (by cases p <;> decide)
  | hAlu op x => exact takesDocumented_alu op x
  | hAluImm op d =>
    exact takesDocumented_p2 (n := 0) (primaryRow_aluImm op) (exec_rowAluImm op d)
      (applyAlu_stepCycles op d) (by cases op <;> decide)
  | hInc x => exact takesDocumented_inc x
  | hDec x => exact takesDocumented_dec x
  | hIncPair p =>
    exact takesDocumented_p1 (n := 1) (primaryRow_incPair p) (exec_rowIncPair p) (by simp [incPair])
      (by cases p <;> decide)
  | hDecPair p =>
    exact takesDocumented_p1 (n := 1) (primaryRow_decPair p) (exec_rowDecPair p) (by simp [decPair])
      (by cases p <;> decide)
  | hAddHl p =>
    exact takesDocumented_p1 (n := 1) (primaryRow_addHl p) (exec_rowAddHl p) (by simp [addHl])
      (by cases p <;> decide)
  | hJrIf cc e => exact takesDocumented_jrIf cc e
  | hJpIf cc a => exact takesDocumented_jpIf cc a
  | hCallIf cc a => exact takesDocumented_callIf cc a
  | hRetIf cc => exact takesDocumented_retIf cc
  | hRst n =>
    exact takesDocumented_p1 (n := 3) (primaryRow_rst n) (exec_rowRst n) (by simp [restart])
      (by revert n; decide)
  | hRot op x => exact takesDocumented_rot op x
  | hBit b x => exact takesDocumented_bit b x
  | hRes b x => exact takesDocumented_res b x
  | hSet b x => exact takesDocumented_set b x
  | hLdIndBcA | hLdIndDeA | hLdhIndCA =>
    exact takesDocumented_fixed (n := 1) rfl (fun _ => rfl) (fun _ => memWrite_stepCycles _ _ _) (by decide)
  | hLdIndHlIncA | hLdIndHlDecA =>
    exact takesDocumented_fixed (n := 1) rfl (fun _ => rfl) (by simp [storeAHlStep_eq]) (by decide)
  | hLdIndHlD8 =>
    exact takesDocumented_p2 (op := 0x36) (n := 1) rfl (fun _ => rfl) (fun _ => memWrite_stepCycles _ _ _) (by decide)
  | hLdhIndA8A =>
    exact takesDocumented_p2 (op := 0xE0) (n := 1) rfl (fun _ => rfl) (fun _ => memWrite_stepCycles _ _ _) (by decide)
  | hLdIndA16A a =>
    exact takesDocumented_p3 (op := 0xEA) (n := 1) rfl (fun _ => rfl) (fun _ => memWrite_stepCycles _ _ _)
      (by decide)
  | hLdIndA16Sp a =>
    exact takesDocumented_p3 (op := 0x08) (n := 2) rfl (fun _ => rfl) (by simp [storeSp_eq]) (by decide)
  | hLdAIndBc | hLdAIndDe | hLdhAIndC =>
    exact takesDocumented_fixed (n := 1) rfl (fun _ => rfl) (fun _ => loadReg_stepCycles _ _ _) (by decide)
  | hLdAIndHlInc | hLdAIndHlDec =>
    exact takesDocumented_fixed (n := 1) rfl (fun _ => rfl) (fun _ => rfl) (by decide)
  | hLdhAIndA8 =>
    exact takesDocumented_p2 (op := 0xF0) (n := 1) rfl (fun _ => rfl) (fun _ => loadReg_stepCycles _ _ _) (by decide)
  | hLdAIndA16 a =>
    exact takesDocumented_p3 (op := 0xFA) (n := 1) rfl (fun _ => rfl) (fun _ => loadReg_stepCycles _ _ _)
      (by decide)
  | hLdHlSpE8 => exact takesDocumented_p2 (op := 0xF8) (n := 1) rfl (fun _ => rfl) (fun _ => rfl) (by decide)
  | hLdSpHl => exact takesDocumented_fixed (n := 1) rfl (fun _ => rfl) (fun _ => rfl) (by decide)
  | hRlca | hRrca | hRla | hRra | hDaa | hCpl | hScf | hCcf | hJpHl | hNop | hHalt | hDi =>
    exact takesDocumented_fixed (n := 0) rfl (fun _ => rfl) (fun _ => rfl) (by decide)
  | hEi =>
    exact takesDocumented_fixed (n := 0) rfl (fun _ => rfl) (fun s => by rw [enableInterrupts_eq]; split <;> rfl) (by decide)
  | hAddSpE8 => exact takesDocumented_p2 (op := 0xE8) (n := 2) rfl (fun _ => rfl) (fun _ => rfl) (by decide)
  | hJrE8 => exact takesDocumented_p2 (op := 0x18) (n := 1) rfl (fun _ => rfl) (fun _ => rfl) (by decide)
  | hJpA16 a => exact takesDocumented_p3 (op := 0xC3) (n := 1) rfl (fun _ => rfl) (fun _ => rfl) (by decide)
  | hRet => exact takesDocumented_fixed (n := 3) rfl (fun _ => rfl) ret_stepCycles (by decide)
  | hCallA16 a =>
    exact takesDocumented_p3 (op := 0xCD) (n := 3) rfl (fun _ => rfl) (call_stepCycles a) (by decide)
  | hReti => exact takesDocumented_fixed (n := 3) rfl exec_reti ret_stepCycles (by decide)
  | hStop => exact takesDocumented_stop
  | hPrefixCb => exact absurd rfl h
  | hUndefined x hx => exact takesDocumented_undefined x hx

/-- No count of the table is above 6, the count of a call (R531). -/
theorem documentedCycles_le (bytes : List Byte) (s : State) : documentedCycles bytes s ≤ 6 := by
  have taken (n : Nat) : takenCycles.getD n 0 ≤ 6 := by
    have all : ∀ k ∈ takenCycles, k ≤ 6 := by decide +kernel
    rw [List.getD_eq_getElem?_getD]
    cases h : takenCycles[n]? with
    | none => exact Nat.zero_le 6
    | some k => exact all k (List.mem_of_getElem? h)
  have notTaken (op : Byte) : notTakenCycles op ≤ 6 := by
    unfold notTakenCycles
    split_ifs <;> [decide; decide; exact taken _]
  have secondary (b : Byte) : secondaryCycles b ≤ 6 := by
    unfold secondaryCycles
    split_ifs <;> decide
  unfold documentedCycles
  split
  · decide
  · split_ifs <;> [decide; decide; exact secondary _; exact taken _; exact notTaken _]

end Sys2Proof.Machine

/-! ### The cycles of a step -/

namespace Sys2Proof.Machine

/-- A dispatch is charged before the step fetches (R425). -/
theorem beginStep_stepCycles (s : State) : (beginStep s).stepCycles = if s.ime && s.pending then 5 else 0 := by
  cases hp : s.pending with
  | false =>
    rw [beginStep_idle s hp, Bool.and_false]
    rfl
  | true =>
    cases hi : s.ime with
    | false =>
      rw [beginStep_wakes s hp hi]
      rfl
    | true =>
      obtain ⟨-, -, -, -, -, -, -, cycles⟩ := dispatched_storeFrame (lowestRequest s.requests) s
      rw [beginStep_taken s hp hi, dispatch_eq, cycles]
      rfl

/-- Each byte fetched costs one cycle (R150, R151). -/
theorem fetchBytes_stepCycles (s : State) : (fetchBytes s).2.stepCycles = s.stepCycles + (fetchBytes s).1.length := by
  by_cases h : s.halt = .bug
  · rw [fetchBytes_bug s h, instrBytes_length]
    exact ticks_stepCycles _ _
  · rw [fetchBytes_running s h, instrBytes_length]
    exact ticks_stepCycles _ _

/-- A fetch that reads the escape byte reads the byte after it too (R153). -/
theorem fetchBytes_ne_escape (s : State) : (fetchBytes s).1 ≠ [0xCB] := by
  intro h
  have opcode : (fetchOp s).1 = 0xCB := List.head_eq_of_cons_eq h
  have length := congrArg List.length h
  rw [fetchBytes_eq, instrBytes_length, opcode] at length
  exact absurd length (by decide)

/-- Fetch and execute charge the documented count of the instruction fetched (R530, R531). -/
theorem fetchExecute_stepCycles {s t : State} (h : fetchExecute s = .next t) : ∃ i, decode (fetchBytes s).1 = .ok (i, []) ∧
    t.stepCycles = s.stepCycles + documentedCycles (encode i) (fetchBytes s).2 := by
  obtain ⟨i, u, hi, he, eq⟩ := fetchExecute_eq s
  have ne : i ≠ .prefixCb := by
    rintro rfl
    exact fetchBytes_ne_escape s (decode_eq_prefixCb hi)
  obtain ⟨v, hv, cost⟩ := takesDocumented_of_ne_prefixCb i ne (fetchBytes s).2
  obtain rfl : u = v := by
    rw [he] at hv
    cases hv
    rfl
  have bytes : encode i = (fetchBytes s).1 := by rw [← encode_of_decode hi, List.append_nil]
  have advanced : t.stepCycles = u.stepCycles := by
    rw [eq] at h
    cases h
    split
    · rw [advanceIme_eq]
    · rfl
  refine ⟨i, hi, ?_⟩
  rw [fetchBytes_stepCycles, bytes] at cost
  rw [advanced, bytes]
  omega

/-- The longest step is a dispatch and a call (R425, R531). -/
theorem step_stepCycles_le {s t : State} (h : step s = .next t) : t.stepCycles ≤ 11 := by
  have hf := fault_eq_none_of_step h
  have begins : (beginStep s).stepCycles ≤ 5 := by
    rw [beginStep_stepCycles]
    split <;> decide
  by_cases hh : (beginStep s).halt = .on
  · rw [step_halted s hf hh] at h
    cases h
    rw [tick_stepCycles]
    omega
  · rw [step_running s hf hh] at h
    obtain ⟨i, -, cost⟩ := fetchExecute_stepCycles h
    have := documentedCycles_le (encode i) (fetchBytes (beginStep s)).2
    omega

/-! ### The loop of a run -/

/-- What every turn of the loop of R480 keeps, the loop keeps. -/
theorem runSteps_induction {P : State → Prop}
    (turn : ∀ s t, P s → 0 < s.budget → step s = .next t → P { t with budget := t.budget - t.stepCycles })
    (fuel : Nat) (s : State) (h : P s) : P (runSteps fuel s) := by
  induction fuel generalizing s with
  | zero => exact h
  | succ fuel ih =>
    by_cases going : 0 < s.budget ∧ s.fault = none
    · obtain ⟨t, ht⟩ := (stepCompletes s).1 going.2
      rw [runSteps_next fuel s t going.1 ht]
      exact ih _ (turn s t h going.1 ht)
    · rw [runSteps_ended _ s going]
      exact h

/-- No step spends the budget itself: `Run` does (R480). -/
theorem step_budget {s t : State} (h : step s = .next t) : t.budget = s.budget := (stepKeepsRom s t h).2.2

/-- With as much fuel as budget the loop runs to its end: every turn spends at least one cycle (R480). -/
theorem runSteps_ends (fuel : Nat) (s : State) (h : s.budget ≤ fuel) :
    (runSteps fuel s).fault ≠ none ∨ (runSteps fuel s).budget ≤ 0 := by
  induction fuel generalizing s with
  | zero => exact .inr h
  | succ fuel ih =>
    by_cases going : 0 < s.budget ∧ s.fault = none
    · obtain ⟨t, ht⟩ := (stepCompletes s).1 going.2
      have cost := step_cost_pos ht
      have budget := step_budget ht
      rw [runSteps_next fuel s t going.1 ht]
      exact ih _ (by dsimp only; omega)
    · rw [runSteps_ended _ s going]
      by_cases hb : 0 < s.budget
      · exact .inl fun hf => going ⟨hb, hf⟩
      · exact .inr (by omega)

/-- A run with no cycles more is the loop on the budget at hand (R480). -/
theorem runFor_zero (s : State) : runFor 0 s = runSteps s.budget.toNat s := by
  have same : ({ s with budget := s.budget + (0 : Nat) } : State) = s := by rw [Int.natCast_zero, Int.add_zero]
  unfold runFor
  dsimp only
  rw [same, Int.natCast_zero, Int.add_zero]

/-- One turn of the loop, then the rest of the run (R480, log entry 8). -/
theorem runSteps_turn {s t : State} (hb : 0 < s.budget) (h : step s = .next t) :
    runSteps s.budget.toNat s = runFor 0 { t with budget := s.budget - t.stepCycles } := by
  obtain ⟨fuel, hfuel⟩ : ∃ fuel, s.budget.toNat = fuel + 1 := ⟨s.budget.toNat - 1, by omega⟩
  have cost := step_cost_pos h
  rw [hfuel, runSteps_next fuel s t hb h, step_budget h, runFor_zero]
  exact runSteps_fuel (fun _ _ => step_budget) _ _ _ (by dsimp only; omega) (by dsimp only; omega)

/-- Settles O60: the loop's end, its turn, and the two bounds that every turn keeps. -/
theorem runSpendsItsBudget : Obligations.RunSpendsItsBudget := by
  intro n s s'
  have run : runFor n s = runSteps s'.budget.toNat s' := rfl
  rw [run]
  refine ⟨fun ended => runSteps_ended _ s' ?_, fun t hb h => runSteps_turn hb h, runSteps_ends _ s' (Int.self_le_toNat _),
    fun hb => ?_⟩
  · rintro ⟨hb, hf⟩
    rcases ended with h | h
    · omega
    · exact h hf
  · refine runSteps_induction (P := fun u => -11 < u.budget) (fun u t _ hu h => ?_) _ s' (by omega)
    have cost := step_stepCycles_le h
    have budget := step_budget h
    dsimp only
    omega

/-! ### What the host may do between steps -/

/-- The state after a reset meets the invariant, whatever canonical image it takes (R500). -/
theorem resetWith_inv (p : Params) {image : Memory} (wf : image.wf) (storage : image.inStorage) :
    (State.resetWith p image).inv := by
  have flags : (0xB0 : Byte) &&& 0x0F = 0 := by decide
  have edge : Timer.edgeOk ⟨0xABCC, false, 0x00, 0x00, 0#3⟩ := by unfold Timer.edgeOk; decide
  have display : State.reset.dev.display.ok := by unfold Display.ok; decide
  exact ⟨⟨wf, storage⟩, flags, edge, display, ⟨nofun, fun _ => rfl⟩, nofun⟩

/-- More requests leave a pending one pending (R420, R421). -/
theorem pending_or {s t : State} (x : BitVec 5) (ie : t.ie = s.ie) (ifr : t.dev.ifr = s.dev.ifr ||| x) (h : s.pending = true) :
    t.pending = true := by
  obtain ⟨k, hk, enabled, requested, -⟩ := (pending_iff s).1 h
  have bit : t.requests.getLsbD k = true := by
    rw [requests_bit t k hk, ie, ifr, BitVec.getLsbD_or, enabled, requested]
    rfl
  have ne : t.requests ≠ 0 := fun zero => by rw [zero] at bit; simp at bit
  exact bne_iff_ne.2 ne

/-- An input injection keeps the invariant: it only stores the masks and adds a request (R481). -/
theorem injectInput_inv (dir btn : BitVec 4) {s : State} (h : s.inv) : (injectInput dir btn s).inv := by
  obtain ⟨mem, flags, edge, display, latency, halt⟩ := h
  by_cases pressed : ∃ k, newlyPressed dir btn s.joypad k
  · rw [injectInput_of_newlyPressed pressed]
    exact ⟨mem, flags, edge, display, latency, fun bug => pending_or 0b10000 (s := s) rfl rfl (halt bug)⟩
  · rw [injectInput_of_not_newlyPressed pressed]
    exact ⟨mem, flags, edge, display, latency, halt⟩

/-- The image below 0x8000 with a draw above it is canonical (R502, R504). -/
theorem wf_image_draw {m draw : Memory} (hm : m.wf) (hd : draw.wf) :
    Memory.wf (m.filter (·.1 < 0x8000) ++ draw.filter (0x8000 ≤ ·.1)) := by
  refine ⟨List.pairwise_append.2 ⟨hm.1.filter _, hd.1.filter _, fun x hx y hy => ?_⟩, fun x hx => ?_⟩
  · have hx := (List.mem_filter.1 hx).2
    have hy := (List.mem_filter.1 hy).2
    simp only [decide_eq_true_eq] at hx hy
    omega
  · rcases List.mem_append.1 hx with h | h
    · exact hm.2 x (List.mem_of_mem_filter h)
    · exact hd.2 x (List.mem_of_mem_filter h)

theorem inStorage_image_draw {m draw : Memory} (hm : m.inStorage) (hd : draw.inStorage) :
    Memory.inStorage (m.filter (·.1 < 0x8000) ++ draw.filter (0x8000 ≤ ·.1)) := by
  intro x hx
  rcases List.mem_append.1 hx with h | h
  · exact hm x (List.mem_of_mem_filter h)
  · exact hd x (List.mem_of_mem_filter h)

/-- Settles O59: each turn of a run keeps the invariant since a step does; an injection and a reset do by themselves. -/
theorem hostKeepsInv : Obligations.HostKeepsInv := by
  intro n dir btn draw s h wf storage
  refine ⟨?_, injectInput_inv dir btn h, resetWith_inv _ (wf_image_draw h.1.1 wf) (inStorage_image_draw h.1.2 storage)⟩
  have started : State.inv { s with budget := s.budget + n } := h
  refine runSteps_induction (P := State.inv) (fun u t hu _ ht => ?_) _ _ started
  exact stepKeepsInv u t hu ht

end Sys2Proof.Machine

/-! ### The documented count of a whole step -/

namespace Sys2Proof.Machine

/-- A documented count asks the state for its flags and its parameters only (R531). -/
theorem documentedCycles_congr {s t : State} (bytes : List Byte) (flags : t.regs.f = s.regs.f) (params : t.params = s.params) :
    documentedCycles bytes t = documentedCycles bytes s := by
  have cond (cc : Cond) : t.cond cc = s.cond cc := by
    cases cc <;> simp only [State.cond, State.zf, State.cf, flags]
  cases bytes with
  | nil => rfl
  | cons op rest => simp only [documentedCycles, cond, params]

/-- The interrupt check leaves F alone, also where it dispatches (R402, R425). -/
theorem beginStep_f (s : State) : (beginStep s).regs.f = s.regs.f := by
  cases hp : s.pending with
  | false => rw [beginStep_idle s hp]
  | true =>
    cases hi : s.ime with
    | false => rw [beginStep_wakes s hp hi]
    | true =>
      obtain ⟨-, flags, -⟩ := dispatched_storeFrame (lowestRequest s.requests) s
      rw [beginStep_taken s hp hi, dispatch_eq]
      exact flags.2 rfl

/-- A fetch leaves F alone (R150, R151). -/
theorem fetchBytes_f (s : State) : (fetchBytes s).2.regs.f = s.regs.f := by
  by_cases h : s.halt = .bug
  · rw [fetchBytes_bug s h]
    simp only [State.setPc, ticks_regs]
  · rw [fetchBytes_running s h]
    simp only [State.setPc, ticks_regs]

/-- The count that the fetched instruction takes is the one documented for the state where the step began (R530, R531). -/
theorem documentedCycles_fetched (bytes : List Byte) (s : State) :
    documentedCycles bytes (fetchBytes (beginStep s)).2 = documentedCycles bytes s := by
  obtain ⟨-, params, -⟩ := (beginStep_keepsFixed s).trans (fetchBytes_keepsFixed (beginStep s))
  exact documentedCycles_congr bytes ((fetchBytes_f _).trans (beginStep_f s)) params

/-- Settles O56: the default reset is the one with no image, which is canonical. -/
theorem invAtReset : Obligations.InvAtReset :=
  ⟨resetWith_inv {} ⟨List.Pairwise.nil, nofun⟩ nofun, fun p _ wf storage => resetWith_inv p wf storage⟩

end Sys2Proof.Machine

/-! ### The cycles of a step (in this namespace because `Machine.documentedCycles` is the count of the table) -/

namespace Sys2Proof

open Machine

/-- Settles O42: the dispatch is charged before the fetch, and neither changes what the documented count asks for. -/
theorem documentedCycles : Obligations.DocumentedCycles := by
  intro s i rest hf hh hd
  obtain ⟨t, ht⟩ := (stepCompletes s).1 hf
  obtain ⟨j, hj, cost⟩ := fetchExecute_stepCycles ((step_running s hf hh).symm.trans ht)
  have same : i = j := by
    rw [hd] at hj
    cases hj
    rfl
  rw [← same, beginStep_stepCycles, documentedCycles_fetched] at cost
  exact ⟨t, ht, cost⟩

end Sys2Proof
